-- ==== Sys2Proof/Word.lean ====
section
/-! DEFINITION. The word types of the block (spec/00_scope.md R7, R8; spec/42_sha.md R170). -/

namespace Sys2Proof

/-- One byte of a byte string or a byte buffer (R8). -/
abbrev Byte := BitVec 8

/-- A 32-bit register value and bus word (R7), and the word of SHA-1 and SHA-256 (R170). -/
abbrev Word := BitVec 32

/-- A 64-bit value: the counter (R38), and the word of SHA-512 (R170). -/
abbrev DWord := BitVec 64

end Sys2Proof
end

