-- ==== Sys2Proof/Config.lean ====
section
/-! DEFINITION. What the platform fixes about the block (spec/00_scope.md R6): the OPEN parameters are constants without a body, so no proof can rest on a value of theirs. -/

namespace Sys2Proof.Config

/-- WINDOW_BYTES (R6): the size of the register window in bytes. -/
def windowBytes : Nat := 0x200

/-- Which multiple of the window size `base` is: OPEN, the platform's (R6, R84). -/
opaque windowIndex : Nat

/-- BASE (R6): the platform address of the register window, a multiple of 0x200. -/
def base : Nat := windowBytes * windowIndex

/-- IRQ_LINE (R6, R240): the input of the platform's interrupt controller that `irq` drives. OPEN. -/
opaque irqLine : Nat

end Sys2Proof.Config
end

