-- ==== Sys2Proof/Syntax.lean ====
section
/-! DEFINITION. The commands of the block, the names of its algorithms, errors and registers, and the events that act on it. -/

namespace Sys2Proof

/-- The commands of the block, one constructor for each row of the opcode table (spec/30_encoding.md R102). A command word carries no operand field (R103), so no constructor has an argument. -/
inductive Instr
  | nop       -- R122
  | generate  -- R123
  | hmac      -- R124
  | truncate  -- R125
  | clear     -- R126
deriving DecidableEq, Repr

/-- Why a command word names no command (spec/30_encoding.md R101, R102). -/
inductive IllegalWord
  | reservedBits    -- bits 31:4 are not zero (R101)
  | reservedOpcode  -- OP is 5..15 (R102)
deriving DecidableEq, Repr

/-- The hash algorithms CTRL.ALG selects (spec/30_encoding.md R103). -/
inductive Alg
  | sha1
  | sha256
  | sha512
deriving DecidableEq, Repr

/-- The long commands, which have a BUSY phase (spec/10_state.md R46). -/
inductive LongOp
  | generate
  | hmac
  | truncate
deriving DecidableEq, Repr

/-- The error codes of STATUS.ERRCODE (spec/60_exceptions.md R230). Codes 6..15 are reserved and never produced, so they have no name here. -/
inductive ErrCode
  | noError         -- 0, NONE
  | missingKey      -- 1, MISSING_KEY
  | unsupportedAlg  -- 2, UNSUPPORTED_ALG
  | keyTooLong      -- 3, KEY_TOO_LONG
  | hashFailure     -- 4, HASH_FAILURE, never raised (R231)
  | illegalCmd      -- 5, ILLEGAL_CMD
deriving DecidableEq, Repr

/-- The registers of the window (spec/10_state.md R20). -/
inductive Reg
  | id
  | caps
  | ctrl
  | cmd
  | status
  | keyLen
  | cntHi
  | cntLo
  | code
  | dbc
  | info
  | ascii (j : Fin 4)
  | digest (j : Fin 16)
  | keyWord (j : Fin 64)
deriving DecidableEq, Repr

/-- What the block makes of the address and size of a bus transaction (spec/20_memory.md R70, R72, R74). -/
inductive Access
  | outside       -- not in the window: not decoded by this block (R74)
  | busError      -- wrong size, misaligned, or a reserved offset (R72, R74)
  | reg (r : Reg)
deriving DecidableEq, Repr

/-- One step of one of the three agents (spec/00_scope.md R11). A transaction's address is given as its offset from BASE, `off = addr - BASE` (spec/20_memory.md R70), an integer, since an address may lie below BASE. -/
inductive Event
  | read (off : Int) (size : Nat)                  -- a host's MemRead(BASE + off, size)
  | write (off : Int) (size : Nat) (data : Word)   -- a host's MemWrite(BASE + off, size, data)
  | engine                                         -- the engine's turn: its completion step where one is enabled
  | reset                                          -- the platform's reset
deriving DecidableEq, Repr

/-- The block's answer to an accepted transaction (spec/20_memory.md R70). A BusError is no response here: it is a fault of the step. -/
inductive Response
  | data (v : Word)
  | ok
deriving DecidableEq, Repr

end Sys2Proof
end

