-- ==== Sys2Proof/Decode.lean ====
section
/-! DEFINITION. Decoding a command word (spec/30_encoding.md R100-R106), decoding an address (spec/20_memory.md R70-R76), and the encoders beside them. -/

namespace Sys2Proof

/-- OP, bits 3:0 of a command word (R100). -/
def opField (w : Word) : BitVec 4 := w.extractLsb' 0 4

/-- RSV, bits 31:4 of a command word (R100). -/
def rsvField (w : Word) : BitVec 28 := w.extractLsb' 4 28

/-- The decoder, total on every 32-bit word, rejecting by name (R106). -/
def decodeCommand (w : Word) : Except IllegalWord Instr :=
  if rsvField w ≠ 0 then .error .reservedBits
  else if opField w = 0x0 then .ok .nop
  else if opField w = 0x1 then .ok .generate
  else if opField w = 0x2 then .ok .hmac
  else if opField w = 0x3 then .ok .truncate
  else if opField w = 0x4 then .ok .clear
  else .error .reservedOpcode

/-- The offset of each register from BASE (spec/10_state.md R20). -/
def regOffset (r : Reg) : Nat :=
  match r with
  | .id => 0x000
  | .caps => 0x004
  | .ctrl => 0x008
  | .cmd => 0x00C
  | .status => 0x010
  | .keyLen => 0x014
  | .cntHi => 0x018
  | .cntLo => 0x01C
  | .code => 0x020
  | .dbc => 0x024
  | .info => 0x028
  | .ascii j => 0x040 + 4 * j.val
  | .digest j => 0x080 + 4 * j.val
  | .keyWord j => 0x100 + 4 * j.val

/-- The single registers at the offsets 0x000..0x028 (spec/20_memory.md R75). -/
def singleRegAt (off : Nat) : Option Reg :=
  match off with
  | 0x000 => some .id
  | 0x004 => some .caps
  | 0x008 => some .ctrl
  | 0x00C => some .cmd
  | 0x010 => some .status
  | 0x014 => some .keyLen
  | 0x018 => some .cntHi
  | 0x01C => some .cntLo
  | 0x020 => some .code
  | 0x024 => some .dbc
  | 0x028 => some .info
  | _ => none

/-- The register at a 4-byte aligned offset of the window, by the cases of spec/20_memory.md R75; none at a reserved offset (R74). -/
def regAt (off : Nat) : Option Reg :=
  if off < 0x040 then singleRegAt off
  else if off < 0x050 then some (.ascii (Fin.ofNat 4 ((off - 0x040) / 4)))
  else if off < 0x080 then none
  else if off < 0x0C0 then some (.digest (Fin.ofNat 16 ((off - 0x080) / 4)))
  else if off < 0x100 then none
  else if off < 0x200 then some (.keyWord (Fin.ofNat 64 ((off - 0x100) / 4)))
  else none

/-- What the block makes of a transaction's offset and size. An address outside the window is not the block's, whatever its size (spec/20_memory.md R74); inside it, size and alignment (R72) and then the reserved offsets (R74) decide. -/
def decodeAccess (off : Int) (size : Nat) : Access :=
  if off < 0 ∨ (Config.windowBytes : Int) ≤ off then .outside
  else if size ≠ 4 ∨ off % 4 ≠ 0 then .busError
  else
    match regAt off.toNat with
    | some r => .reg r
    | none => .busError

/-- The offset of a platform address from BASE, `off = addr - BASE` (spec/20_memory.md R70). -/
def addrOffset (addr : Nat) : Int := (addr : Int) - (Config.base : Int)

/-- The CMD word of each command (spec/30_encoding.md R102). -/
def encodeCommand (i : Instr) : Word :=
  match i with
  | .nop => 0x00000000
  | .generate => 0x00000001
  | .hmac => 0x00000002
  | .truncate => 0x00000003
  | .clear => 0x00000004

/-- The 32-bit code points of the algorithms: CTRL.ALG and INFO.ALG_USED (spec/30_encoding.md R103). -/
def algCode (a : Alg) : BitVec 2 :=
  match a with
  | .sha1 => 0
  | .sha256 => 1
  | .sha512 => 2

/-- The algorithm a value of CTRL.ALG selects; none for 3, the unsupported one (spec/30_encoding.md R103). -/
def algOfCode (c : BitVec 2) : Option Alg :=
  if c = 0 then some .sha1
  else if c = 1 then some .sha256
  else if c = 2 then some .sha512
  else none

/-- The number of each error code (spec/60_exceptions.md R230). -/
def errCodeValue (e : ErrCode) : BitVec 4 :=
  match e with
  | .noError => 0
  | .missingKey => 1
  | .unsupportedAlg => 2
  | .keyTooLong => 3
  | .hashFailure => 4
  | .illegalCmd => 5

/-- The bits of an instruction of the opcode table as a number: the bits above `nbits` are zero. -/
def tableBits (nbits w : Nat) : Nat := w % 2 ^ nbits

/-- The command the decoder reads from an instruction whose bits are `w`, numbered as the opcode table numbers them. Every command word is exactly 32 bits (R100): a number with a higher bit set is no command. -/
def decodeTableWord (nbits w : Nat) : Option Instr :=
  if tableBits nbits w < 2 ^ 32 then
    match decodeCommand (BitVec.ofNat 32 (tableBits nbits w)) with
    | .ok i => some i
    | .error _ => none
  else none

end Sys2Proof
end

