-- ==== Sys2Proof/Machine/Bytes.lean ====
section
/-! DEFINITION. Byte strings and big-endian packing (spec/00_scope.md R8; spec/10_state.md R40). -/

namespace Sys2Proof.Machine

/-- `BE32(b0, b1, b2, b3)` (R8): four bytes read big-endian. -/
def be32 (b0 b1 b2 b3 : Byte) : Word := b0 ++ b1 ++ b2 ++ b3

/-- The unsigned value of a byte string read big-endian (R8). -/
def natBE (bs : List Byte) : Nat := bs.foldl (fun acc b => 256 * acc + b.toNat) 0

/-- `bytes_BE(v, n)` (R8): the n-byte big-endian string of the unsigned value `v`. -/
def bytesBE (v n : Nat) : List Byte :=
  (List.range n).map fun i => BitVec.ofNat 8 (v >>> (8 * (n - 1 - i)))

/-- Byte `i` of a byte string (R8). Every index a rule reads is in range; past the end this reads 0. -/
def byteAt (bs : List Byte) (i : Nat) : Byte := bs.getD i 0

/-- Byte b of a word: `WORD[31-8b : 24-8b]` (R40). -/
def wordByte (v : Word) (b : Nat) : Byte := v.extractLsb' (24 - 8 * b) 8

/-- The 32-bit word j of a byte buffer, byte 4j at bits 31:24 (R40). -/
def bufferWord {n : Nat} (buf : Vector Byte n) (j : Nat) : Word :=
  be32 (byteAt buf.toList (4 * j)) (byteAt buf.toList (4 * j + 1))
    (byteAt buf.toList (4 * j + 2)) (byteAt buf.toList (4 * j + 3))

/-- The byte buffer whose byte i is `f i`. -/
def bufferOf {n : Nat} (f : Fin n → Byte) : Vector Byte n :=
  ⟨((List.finRange n).map f).toArray, by simp⟩

/-- A byte buffer with its word j replaced by `v` (R40). -/
def setBufferWord {n : Nat} (buf : Vector Byte n) (j : Nat) (v : Word) : Vector Byte n :=
  bufferOf fun i => if i.val / 4 = j then wordByte v (i.val % 4) else buf[i]

end Sys2Proof.Machine
end

