-- ==== Sys2Proof/Machine/Sha.lean ====
section
/-! DEFINITION. SHA-1, SHA-256 and SHA-512 as spec/42_sha.md defines them (R170-R205). -/

namespace Sys2Proof.Machine

/-! ### Common rules -/

/-- The number z of zero bytes of the padding (R172): the least that makes the padded length a multiple of `block`, with `lengthBytes` bytes of length field. -/
def padZeros (block lengthBytes len : Nat) : Nat :=
  (block - (len + 1 + lengthBytes) % block) % block

/-- The padded message (R172): `X || 0x80 || 0x00 repeated z || bytes_BE(8 * len(X), lengthBytes)`. -/
def padMessage (block lengthBytes : Nat) (x : List Byte) : List Byte :=
  x ++ [0x80] ++ List.replicate (padZeros block lengthBytes x.length) 0
    ++ bytesBE (8 * x.length) lengthBytes

/-- The first `n` blocks of `size` bytes of a byte string (R173). -/
def splitBlocks (size : Nat) : Nat → List Byte → List (List Byte)
  | 0, _ => []
  | n + 1, x => x.take size :: splitBlocks size n (x.drop size)

/-- The 16 big-endian words of a block (R173), each of `w` bits. -/
def blockWords (w : Nat) (b : List Byte) : List (BitVec w) :=
  (List.range 16).map fun t => BitVec.ofNat w (natBE ((b.drop (t * (w / 8))).take (w / 8)))

/-- The blocks of a message as words: padding (R172), then parsing (R173). -/
def messageBlocks (w block lengthBytes : Nat) (x : List Byte) : List (List (BitVec w)) :=
  (splitBlocks block ((padMessage block lengthBytes x).length / block)
    (padMessage block lengthBytes x)).map (blockWords w)

/-- Output serialisation (R171): the words of the hash value, each big-endian. -/
def serialise {w : Nat} (hs : List (BitVec w)) : List Byte :=
  hs.flatMap fun h => bytesBE h.toNat (w / 8)

/-! ### SHA-1 -/

/-- The working variables a..e of SHA-1, or its hash value H_0..H_4 (R180, R183). -/
structure Sha1Value where
  a : Word
  b : Word
  c : Word
  d : Word
  e : Word
deriving DecidableEq, Repr

/-- The initial hash value of SHA-1 (R180). -/
def sha1Init : Sha1Value := ⟨0x67452301, 0xEFCDAB89, 0x98BADCFE, 0x10325476, 0xC3D2E1F0⟩

/-- The round function f_t of SHA-1 (R181). -/
def sha1F (t : Nat) (b c d : Word) : Word :=
  if t < 20 then (b &&& c) ^^^ (~~~b &&& d)
  else if t < 40 then b ^^^ c ^^^ d
  else if t < 60 then (b &&& c) ^^^ (b &&& d) ^^^ (c &&& d)
  else b ^^^ c ^^^ d

/-- The round constant K_t of SHA-1 (R181). -/
def sha1K (t : Nat) : Word :=
  if t < 20 then 0x5A827999
  else if t < 40 then 0x6ED9EBA1
  else if t < 60 then 0x8F1BBCDC
  else 0xCA62C1D6

/-- Adds `n` words to the schedule of SHA-1, kept newest first, so that entry k of the list is W_(t-1-k) (R182). -/
def sha1Extend : Nat → List Word → List Word
  | 0, ws => ws
  | n + 1, ws =>
    sha1Extend n
      ((ws.getD 2 0 ^^^ ws.getD 7 0 ^^^ ws.getD 13 0 ^^^ ws.getD 15 0).rotateLeft 1 :: ws)

/-- The message schedule W_0..W_79 of SHA-1 for a block of 16 words (R182). -/
def sha1Schedule (m : List Word) : List Word := (sha1Extend 64 m.reverse).reverse

/-- One round of SHA-1 with the word W_t and the round number t (R183). -/
def sha1Round (s : Sha1Value) (wt : Word × Nat) : Sha1Value :=
  ⟨s.a.rotateLeft 5 + sha1F wt.2 s.b s.c s.d + s.e + sha1K wt.2 + wt.1,
    s.a, s.b.rotateLeft 30, s.c, s.d⟩

/-- The compression of one block of SHA-1 (R183). -/
def sha1Compress (h : Sha1Value) (m : List Word) : Sha1Value :=
  let s := (sha1Schedule m).zipIdx.foldl sha1Round h
  ⟨h.a + s.a, h.b + s.b, h.c + s.c, h.d + s.d, h.e + s.e⟩

/-- `SHA1(X)` (R180, R184): 20 bytes. -/
def sha1 (x : List Byte) : List Byte :=
  let h := (messageBlocks 32 64 8 x).foldl sha1Compress sha1Init
  serialise [h.a, h.b, h.c, h.d, h.e]

/-! ### SHA-256 and SHA-512: one loop at two widths (R194, R204) -/

/-- The working variables a..h of SHA-256 or SHA-512, or the hash value H_0..H_7. -/
structure Sha2Value (w : Nat) where
  a : BitVec w
  b : BitVec w
  c : BitVec w
  d : BitVec w
  e : BitVec w
  f : BitVec w
  g : BitVec w
  h : BitVec w
deriving DecidableEq, Repr

/-- What differs between SHA-256 and SHA-512: the initial value, the round constants and the four rotation functions (R190-R192, R200-R202). -/
structure Sha2Kind (w : Nat) where
  init : Sha2Value w
  constants : List (BitVec w)
  bigSigma0 : BitVec w → BitVec w
  bigSigma1 : BitVec w → BitVec w
  smallSigma0 : BitVec w → BitVec w
  smallSigma1 : BitVec w → BitVec w

/-- `Ch(x, y, z)` (R192, R202). -/
def shaCh {w : Nat} (x y z : BitVec w) : BitVec w := (x &&& y) ^^^ (~~~x &&& z)

/-- `Maj(x, y, z)` (R192, R202). -/
def shaMaj {w : Nat} (x y z : BitVec w) : BitVec w := (x &&& y) ^^^ (x &&& z) ^^^ (y &&& z)

/-- Adds `n` words to the schedule, kept newest first, so that entry k of the list is W_(t-1-k) (R193, R203). -/
def sha2Extend {w : Nat} (kind : Sha2Kind w) : Nat → List (BitVec w) → List (BitVec w)
  | 0, ws => ws
  | n + 1, ws =>
    sha2Extend kind n
      ((kind.smallSigma1 (ws.getD 1 0) + ws.getD 6 0 + kind.smallSigma0 (ws.getD 14 0)
        + ws.getD 15 0) :: ws)

/-- The message schedule for a block of 16 words: one word for each round constant (R193, R203). -/
def sha2Schedule {w : Nat} (kind : Sha2Kind w) (m : List (BitVec w)) : List (BitVec w) :=
  (sha2Extend kind (kind.constants.length - 16) m.reverse).reverse

/-- One round with the constant K_t and the word W_t (R194, R204). -/
def sha2Round {w : Nat} (kind : Sha2Kind w) (s : Sha2Value w) (kw : BitVec w × BitVec w) :
    Sha2Value w :=
  let t1 := s.h + kind.bigSigma1 s.e + shaCh s.e s.f s.g + kw.1 + kw.2
  let t2 := kind.bigSigma0 s.a + shaMaj s.a s.b s.c
  ⟨t1 + t2, s.a, s.b, s.c, s.d + t1, s.e, s.f, s.g⟩

/-- The compression of one block (R194, R204). -/
def sha2Compress {w : Nat} (kind : Sha2Kind w) (h : Sha2Value w) (m : List (BitVec w)) :
    Sha2Value w :=
  let s := (kind.constants.zip (sha2Schedule kind m)).foldl (sha2Round kind) h
  ⟨h.a + s.a, h.b + s.b, h.c + s.c, h.d + s.d, h.e + s.e, h.f + s.f, h.g + s.g, h.h + s.h⟩

/-- The words H_0..H_7 of a hash value in order (R171). -/
def sha2Words {w : Nat} (h : Sha2Value w) : List (BitVec w) :=
  [h.a, h.b, h.c, h.d, h.e, h.f, h.g, h.h]

/-! ### SHA-256 -/

/-- The round constants K_0..K_63 of SHA-256 (R191). -/
def sha256K : List Word :=
  [0x428A2F98, 0x71374491, 0xB5C0FBCF, 0xE9B5DBA5, 0x3956C25B, 0x59F111F1, 0x923F82A4, 0xAB1C5ED5]
  ++ [0xD807AA98, 0x12835B01, 0x243185BE, 0x550C7DC3, 0x72BE5D74, 0x80DEB1FE, 0x9BDC06A7, 0xC19BF174]
  ++ [0xE49B69C1, 0xEFBE4786, 0x0FC19DC6, 0x240CA1CC, 0x2DE92C6F, 0x4A7484AA, 0x5CB0A9DC, 0x76F988DA]
  ++ [0x983E5152, 0xA831C66D, 0xB00327C8, 0xBF597FC7, 0xC6E00BF3, 0xD5A79147, 0x06CA6351, 0x14292967]
  ++ [0x27B70A85, 0x2E1B2138, 0x4D2C6DFC, 0x53380D13, 0x650A7354, 0x766A0ABB, 0x81C2C92E, 0x92722C85]
  ++ [0xA2BFE8A1, 0xA81A664B, 0xC24B8B70, 0xC76C51A3, 0xD192E819, 0xD6990624, 0xF40E3585, 0x106AA070]
  ++ [0x19A4C116, 0x1E376C08, 0x2748774C, 0x34B0BCB5, 0x391C0CB3, 0x4ED8AA4A, 0x5B9CCA4F, 0x682E6FF3]
  ++ [0x748F82EE, 0x78A5636F, 0x84C87814, 0x8CC70208, 0x90BEFFFA, 0xA4506CEB, 0xBEF9A3F7, 0xC67178F2]

/-- The initial hash value of SHA-256 (R190). -/
def sha256Init : Sha2Value 32 :=
  ⟨0x6A09E667, 0xBB67AE85, 0x3C6EF372, 0xA54FF53A, 0x510E527F, 0x9B05688C, 0x1F83D9AB, 0x5BE0CD19⟩

/-- SHA-256's initial value, constants and functions (R190, R191, R192). -/
def sha256Kind : Sha2Kind 32 :=
  { init := sha256Init
    constants := sha256K
    bigSigma0 := fun x => x.rotateRight 2 ^^^ x.rotateRight 13 ^^^ x.rotateRight 22
    bigSigma1 := fun x => x.rotateRight 6 ^^^ x.rotateRight 11 ^^^ x.rotateRight 25
    smallSigma0 := fun x => x.rotateRight 7 ^^^ x.rotateRight 18 ^^^ x >>> 3
    smallSigma1 := fun x => x.rotateRight 17 ^^^ x.rotateRight 19 ^^^ x >>> 10 }

/-- `SHA256(X)` (R190, R195): 32 bytes. -/
def sha256 (x : List Byte) : List Byte :=
  serialise (sha2Words ((messageBlocks 32 64 8 x).foldl (sha2Compress sha256Kind) sha256Kind.init))

/-! ### SHA-512 -/

/-- The round constants K_0..K_79 of SHA-512 (R201). -/
def sha512K : List DWord :=
  [0x428A2F98D728AE22, 0x7137449123EF65CD, 0xB5C0FBCFEC4D3B2F, 0xE9B5DBA58189DBBC]
  ++ [0x3956C25BF348B538, 0x59F111F1B605D019, 0x923F82A4AF194F9B, 0xAB1C5ED5DA6D8118]
  ++ [0xD807AA98A3030242, 0x12835B0145706FBE, 0x243185BE4EE4B28C, 0x550C7DC3D5FFB4E2]
  ++ [0x72BE5D74F27B896F, 0x80DEB1FE3B1696B1, 0x9BDC06A725C71235, 0xC19BF174CF692694]
  ++ [0xE49B69C19EF14AD2, 0xEFBE4786384F25E3, 0x0FC19DC68B8CD5B5, 0x240CA1CC77AC9C65]
  ++ [0x2DE92C6F592B0275, 0x4A7484AA6EA6E483, 0x5CB0A9DCBD41FBD4, 0x76F988DA831153B5]
  ++ [0x983E5152EE66DFAB, 0xA831C66D2DB43210, 0xB00327C898FB213F, 0xBF597FC7BEEF0EE4]
  ++ [0xC6E00BF33DA88FC2, 0xD5A79147930AA725, 0x06CA6351E003826F, 0x142929670A0E6E70]
  ++ [0x27B70A8546D22FFC, 0x2E1B21385C26C926, 0x4D2C6DFC5AC42AED, 0x53380D139D95B3DF]
  ++ [0x650A73548BAF63DE, 0x766A0ABB3C77B2A8, 0x81C2C92E47EDAEE6, 0x92722C851482353B]
  ++ [0xA2BFE8A14CF10364, 0xA81A664BBC423001, 0xC24B8B70D0F89791, 0xC76C51A30654BE30]
  ++ [0xD192E819D6EF5218, 0xD69906245565A910, 0xF40E35855771202A, 0x106AA07032BBD1B8]
  ++ [0x19A4C116B8D2D0C8, 0x1E376C085141AB53, 0x2748774CDF8EEB99, 0x34B0BCB5E19B48A8]
  ++ [0x391C0CB3C5C95A63, 0x4ED8AA4AE3418ACB, 0x5B9CCA4F7763E373, 0x682E6FF3D6B2B8A3]
  ++ [0x748F82EE5DEFB2FC, 0x78A5636F43172F60, 0x84C87814A1F0AB72, 0x8CC702081A6439EC]
  ++ [0x90BEFFFA23631E28, 0xA4506CEBDE82BDE9, 0xBEF9A3F7B2C67915, 0xC67178F2E372532B]
  ++ [0xCA273ECEEA26619C, 0xD186B8C721C0C207, 0xEADA7DD6CDE0EB1E, 0xF57D4F7FEE6ED178]
  ++ [0x06F067AA72176FBA, 0x0A637DC5A2C898A6, 0x113F9804BEF90DAE, 0x1B710B35131C471B]
  ++ [0x28DB77F523047D84, 0x32CAAB7B40C72493, 0x3C9EBE0A15C9BEBC, 0x431D67C49C100D4C]
  ++ [0x4CC5D4BECB3E42B6, 0x597F299CFC657E2A, 0x5FCB6FAB3AD6FAEC, 0x6C44198C4A475817]

/-- The initial hash value of SHA-512 (R200). -/
def sha512Init : Sha2Value 64 :=
  ⟨0x6A09E667F3BCC908, 0xBB67AE8584CAA73B, 0x3C6EF372FE94F82B, 0xA54FF53A5F1D36F1,
    0x510E527FADE682D1, 0x9B05688C2B3E6C1F, 0x1F83D9ABFB41BD6B, 0x5BE0CD19137E2179⟩

/-- SHA-512's initial value, constants and functions (R200, R201, R202). -/
def sha512Kind : Sha2Kind 64 :=
  { init := sha512Init
    constants := sha512K
    bigSigma0 := fun x => x.rotateRight 28 ^^^ x.rotateRight 34 ^^^ x.rotateRight 39
    bigSigma1 := fun x => x.rotateRight 14 ^^^ x.rotateRight 18 ^^^ x.rotateRight 41
    smallSigma0 := fun x => x.rotateRight 1 ^^^ x.rotateRight 8 ^^^ x >>> 7
    smallSigma1 := fun x => x.rotateRight 19 ^^^ x.rotateRight 61 ^^^ x >>> 6 }

/-- `SHA512(X)` (R200, R205): 64 bytes. -/
def sha512 (x : List Byte) : List Byte :=
  serialise (sha2Words ((messageBlocks 64 128 16 x).foldl (sha2Compress sha512Kind) sha512Kind.init))

end Sys2Proof.Machine
end

