-- ==== Sys2Proof/Machine/Hmac.lean ====
section
/-! DEFINITION. The HMAC engine's construction (spec/41_hmac.md R152-R157). -/

namespace Sys2Proof.Machine

/-- HLEN(alg): the output length in bytes (spec/00_scope.md R6, spec/30_encoding.md R103). -/
def hlen (alg : Alg) : Nat :=
  match alg with
  | .sha1 => 20
  | .sha256 => 32
  | .sha512 => 64

/-- BLOCK(alg): the hash block size in bytes (spec/00_scope.md R6, spec/30_encoding.md R103). -/
def blockBytes (alg : Alg) : Nat :=
  match alg with
  | .sha1 => 64
  | .sha256 => 64
  | .sha512 => 128

/-- The bytes of the length field of the padding (spec/42_sha.md R172). -/
def lengthBytes (alg : Alg) : Nat :=
  match alg with
  | .sha1 => 8
  | .sha256 => 8
  | .sha512 => 16

/-- Hash dispatch (R156). -/
def hashOf (alg : Alg) (x : List Byte) : List Byte :=
  match alg with
  | .sha1 => sha1 x
  | .sha256 => sha256 x
  | .sha512 => sha512 x

/-- Key pre-hashing (R152): only a key longer than the block is hashed. -/
def prehashKey (alg : Alg) (k : List Byte) : List Byte :=
  if k.length > blockBytes alg then hashOf alg k else k

/-- Key padding (R153): K0, the key followed by zero bytes up to the block size. -/
def padKey (alg : Alg) (k : List Byte) : List Byte :=
  prehashKey alg k ++ List.replicate (blockBytes alg - (prehashKey alg k).length) 0

/-- `K0 ^ ipad` or `K0 ^ opad`: every byte XORed with the pad constant (R154). -/
def xorPad (pad : Byte) (k0 : List Byte) : List Byte := k0.map fun b => b ^^^ pad

/-- The inner hash input `(K0 ^ ipad) || M` (R155). -/
def innerInput (alg : Alg) (k m : List Byte) : List Byte := xorPad 0x36 (padKey alg k) ++ m

/-- The outer hash input `(K0 ^ opad) || inner` (R155). -/
def outerInput (alg : Alg) (k m : List Byte) : List Byte :=
  xorPad 0x5C (padKey alg k) ++ hashOf alg (innerInput alg k m)

/-- `HMAC(alg, K, M)` (R155). -/
def hmac (alg : Alg) (k m : List Byte) : List Byte := hashOf alg (outerInput alg k m)

/-- How many blocks the hash compresses for a message of `len` bytes (spec/42_sha.md R172, R173): a work count, which no rule depends on (spec/70_reset_and_hazards.md R291). -/
def compressionCalls (alg : Alg) (len : Nat) : Nat :=
  (len + 1 + padZeros (blockBytes alg) (lengthBytes alg) len + lengthBytes alg) / blockBytes alg

end Sys2Proof.Machine
end

