-- ==== Sys2Proof/Machine/State.lean ====
section
/-! DEFINITION. The state of the block as plain data (spec/10_state.md), the ways a step can stop, and the state after reset (R49). -/

namespace Sys2Proof.Machine

/-- PHASE (spec/10_state.md R46). STATUS.BUSY is 1 exactly while the phase is BUSY (R31), so it has no storage of its own. -/
inductive Phase
  | idle
  | busy (op : LongOp)
deriving DecidableEq, Repr

/-- Why the machine stops with a fault. -/
inductive Fault
  /-- BusError (spec/20_memory.md R72, R74): raised by a transaction of the wrong size, a misaligned one, or one at a reserved offset. The block's state does not change; "A model treats `BusError` as a fault of the host program that issued it". Safe: the hardware goes on from the unchanged state, the model stops. -/
  | busError
  /-- The engine's turn came while PHASE = BUSY(op) and CTRL.ALG = 3. Raised by the completion step alone. The spec says that this never occurs ("ALG = 3 never reaches the engine", spec/41_hmac.md R156), and no run from reset reaches it. Safe: the model stops. -/
  | unsupportedAlgInEngine
deriving DecidableEq, Repr

/-- Why the model gives a step no meaning. -/
inductive Refusal
  /-- A command that has no meaning yet. No command is left so. Safe. -/
  | notModelled (mnemonic : String)
  /-- A transaction whose address is outside the register window, raised by the bus. "Addresses outside the window are not decoded by this block: what they do is the platform's" (spec/20_memory.md R74). Safe: the model stops. -/
  | outsideWindow
deriving DecidableEq, Repr

/-- Everything the spec gives the block, and two fields of the model's own: the agents' steps still to come and the responses given so far. ID, CAPS and CMD hold no state (R22, R23, R29); `irq` is combinational (R47). -/
structure State where
  /-- CTRL (R24): ALG 1:0, DIGITS 7:4, IE_DONE 8, IE_ERR 9. -/
  ctrl : Word
  /-- KEY_LEN (R37), bits 8:0. -/
  keyLen : BitVec 9
  /-- CNT_HI (R38), bits 63:32 of the counter. -/
  cntHi : Word
  /-- CNT_LO (R38), bits 31:0 of the counter. -/
  cntLo : Word
  /-- KEYB[0..255] (R39). -/
  key : Vector Byte 256
  /-- DIG[0..63] (R41). -/
  dig : Vector Byte 64
  /-- STATUS.DONE (R32). -/
  doneFlag : Bool
  /-- STATUS.ERR (R33). -/
  errFlag : Bool
  /-- STATUS.OVR (R34). -/
  ovrFlag : Bool
  /-- STATUS.ERRCODE (R35). -/
  errCode : ErrCode
  /-- CODE (R42). -/
  code : Word
  /-- DBC (R43). -/
  dbc : Word
  /-- INFO (R44): OFFSET 3:0, DIGITS_USED 11:8, ALG_USED 17:16, VALID 31. -/
  info : Word
  /-- ASC[0..15] (R45). -/
  asc : Vector Byte 16
  /-- PHASE (R46). -/
  phase : Phase
  /-- The agents' steps still to come, the next first (spec/00_scope.md R11). The model's own field. -/
  pending : List Event
  /-- The responses given so far, the oldest first (spec/70_reset_and_hazards.md R292). The model's own field. -/
  responses : List Response
deriving DecidableEq, Repr

/-- The block right after reset (spec/10_state.md R49), with no step to come and no response given. -/
def State.reset : State :=
  { ctrl := 0
    keyLen := 0
    cntHi := 0
    cntLo := 0
    key := Vector.replicate 256 0
    dig := Vector.replicate 64 0
    doneFlag := false
    errFlag := false
    ovrFlag := false
    errCode := .noError
    code := 0
    dbc := 0
    info := 0
    asc := Vector.replicate 16 0
    phase := .idle
    pending := []
    responses := [] }

end Sys2Proof.Machine
end

