-- ==== Sys2Proof/Machine/Operands.lean ====
section
/-! DEFINITION. The implicit operands of the commands, read from the registers (spec/30_encoding.md R103-R105), and the constants behind ID and CAPS. -/

namespace Sys2Proof.Machine

/-- ID (spec/10_state.md R22). -/
def idValue : Word := 0x4F545031

/-- CAPS (spec/10_state.md R23). -/
def capsValue : Word := 0x0000F407

/-- CTRL.ALG, bits 1:0 (spec/10_state.md R25). -/
def algField (s : State) : BitVec 2 := s.ctrl.extractLsb' 0 2

/-- The algorithm operand: none when ALG = 3 (spec/30_encoding.md R103). -/
def algOperand (s : State) : Option Alg := algOfCode (algField s)

/-- CTRL.DIGITS, bits 7:4 (spec/10_state.md R26). -/
def digitsField (s : State) : BitVec 4 := s.ctrl.extractLsb' 4 4

/-- The effective digit count d: the field, with 0 meaning 6 (spec/30_encoding.md R104). -/
def effDigits (s : State) : Nat := if digitsField s = 0 then 6 else (digitsField s).toNat

/-- CTRL.IE_DONE, bit 8 (spec/10_state.md R27). -/
def ieDone (s : State) : Bool := s.ctrl.getLsbD 8

/-- CTRL.IE_ERR, bit 9 (spec/10_state.md R28). -/
def ieErr (s : State) : Bool := s.ctrl.getLsbD 9

/-- The counter `C = CNT_HI || CNT_LO` (spec/10_state.md R38). -/
def counter (s : State) : DWord := s.cntHi ++ s.cntLo

/-- The message: the counter as 8 big-endian bytes (spec/41_hmac.md R150). -/
def counterMessage (s : State) : List Byte := bytesBE (counter s).toNat 8

/-- The key `K = KEYB[0 : KEY_LEN]` (spec/41_hmac.md R151). DESIGN CHOICE, unsafe: R151 takes 1 <= KEY_LEN <= 256 as guaranteed; in a state that starts BUSY (spec/70_reset_and_hazards.md R294) with KEY_LEN above 256 the model takes all 256 bytes, and with KEY_LEN = 0 none (notes/assumptions/17.md). -/
def keyBytes (s : State) : List Byte := s.key.toList.take s.keyLen.toNat

/-- The digest operand of TRUNCATE, `DIG[0 : HLEN(alg)]` (spec/40_commands.md R125). -/
def digestBytes (alg : Alg) (s : State) : List Byte := s.dig.toList.take (hlen alg)

end Sys2Proof.Machine
end

