-- ==== Sys2Proof/Machine/Flags.lean ====
section
/-! DEFINITION. STATUS and the interrupt (spec/10_state.md R30-R36, R47; spec/20_memory.md R78): how each flag is computed, set and cleared. -/

namespace Sys2Proof.Machine

/-- STATUS.BUSY: 1 exactly while the phase is BUSY (spec/10_state.md R31). -/
def busyFlag (s : State) : Bool :=
  match s.phase with
  | .idle => false
  | .busy _ => true

/-- The interrupt output `irq = (DONE & IE_DONE) | (ERR & IE_ERR)`, combinational (spec/10_state.md R47). -/
def irq (s : State) : Bool := (s.doneFlag && ieDone s) || (s.errFlag && ieErr s)

/-- Whether the block asserts the interrupt-controller input `line`: `irq` drives IRQ_LINE alone (spec/60_exceptions.md R240). -/
def drivesLine (line : Nat) (s : State) : Bool := decide (line = Config.irqLine) && irq s

/-- A word with bit `i` equal to `b` and every other bit 0. -/
def flagBit (b : Bool) (i : Nat) : Word := if b then 1#32 <<< i else 0

/-- The value a read of STATUS gives (spec/10_state.md R30). -/
def statusWord (s : State) : Word :=
  flagBit (busyFlag s) 0 ||| flagBit s.doneFlag 1 ||| flagBit s.errFlag 2 ||| flagBit s.ovrFlag 3
    ||| (errCodeValue s.errCode).zeroExtend 32 <<< 4 ||| flagBit (irq s) 8

/-- A write of `v` to STATUS clears bits, in both phases (spec/20_memory.md R78). -/
def statusWrite (v : Word) (s : State) : State :=
  { s with
    doneFlag := if v.getLsbD 1 then false else s.doneFlag
    errFlag := if v.getLsbD 2 then false else s.errFlag
    errCode := if v.getLsbD 2 then .noError else s.errCode
    ovrFlag := if v.getLsbD 3 then false else s.ovrFlag }

/-- What the acceptance of any command other than NOP does first: DONE, ERR and ERRCODE cleared, OVR untouched (spec/40_commands.md R120). -/
def startRecord (s : State) : State :=
  { s with doneFlag := false, errFlag := false, errCode := .noError }

/-- A write dropped because the engine is busy: OVR is set and nothing else changes (spec/20_memory.md R77). -/
def dropWrite (s : State) : State := { s with ovrFlag := true }

/-- The end of every successful command: DONE is set (spec/10_state.md R32). -/
def setDone (s : State) : State := { s with doneFlag := true }

/-- INFO.VALID, bit 31 (spec/10_state.md R44). -/
def infoValid (s : State) : Bool := s.info.getLsbD 31

end Sys2Proof.Machine
end

