-- ==== Sys2Proof/Machine/Truncation.lean ====
section
/-! DEFINITION. The dynamic truncation unit (spec/43_truncation.md R210-R217). All quantities are unsigned (R213). -/

namespace Sys2Proof.Machine

/-- What the unit returns: `(offset, D, code, s)` (R216). -/
structure Truncation where
  offset : Nat
  dbc : Word
  code : Word
  text : List Byte
deriving DecidableEq, Repr

/-- The offset (R210): the low four bits of the digest's last byte. -/
def truncOffset (alg : Alg) (h : List Byte) : Nat := (byteAt h (hlen alg - 1) &&& 0x0F).toNat

/-- The dynamic binary code D (R211, R212): the window's four bytes, big-endian, with the top bit cleared. -/
def truncDbc (alg : Alg) (h : List Byte) : Word :=
  be32 (byteAt h (truncOffset alg h) &&& 0x7F) (byteAt h (truncOffset alg h + 1))
    (byteAt h (truncOffset alg h + 2)) (byteAt h (truncOffset alg h + 3))

/-- The reduction (R214): `D mod 10^d` with the exact integer power. -/
def truncCode (dbc : Word) (d : Nat) : Word := BitVec.ofNat 32 (dbc.toNat % 10 ^ d)

/-- The ASCII byte of a decimal digit, 0x30..0x39 (R215). -/
def asciiDigit (n : Nat) : Byte := BitVec.ofNat 8 (0x30 + n)

/-- The shortest decimal representation of `n`, most significant digit first (R215), for an `n` of at most `fuel + 1` digits. -/
def decimalDigits : Nat → Nat → List Byte
  | 0, n => [asciiDigit (n % 10)]
  | fuel + 1, n =>
    if n < 10 then [asciiDigit n] else decimalDigits fuel (n / 10) ++ [asciiDigit (n % 10)]

/-- `digits_of(code)` (R215): a code is below 2^31 and so has at most 10 digits. -/
def digitsOf (code : Word) : List Byte := decimalDigits 9 code.toNat

/-- `s` (R215): the digits left-padded with '0' to length `d`; it only pads, it never truncates. -/
def renderCode (code : Word) (d : Nat) : List Byte :=
  List.replicate (d - (digitsOf code).length) 0x30 ++ digitsOf code

/-- The unit as one function (R216). -/
def truncateDigest (alg : Alg) (h : List Byte) (d : Nat) : Truncation :=
  { offset := truncOffset alg h
    dbc := truncDbc alg h
    code := truncCode (truncDbc alg h) d
    text := renderCode (truncCode (truncDbc alg h) d) d }

end Sys2Proof.Machine
end

