-- ==== Sys2Proof/Machine/Ops.lean ====
section
/-! DEFINITION. The named operations over the registers and buffers: reading and writing a register, the output helpers (spec/40_commands.md R128-R130), and the error completion (spec/60_exceptions.md R232), which is this block's counterpart of taking an exception (R242). -/

namespace Sys2Proof.Machine

/-! ### Responses and reset -/

/-- The block answers a transaction (spec/20_memory.md R70). -/
def respond (r : Response) (s : State) : State := { s with responses := s.responses ++ [r] }

/-- The reset event (spec/70_reset_and_hazards.md R260): every piece of the block's state takes its reset value, and a command in progress is abandoned. The steps still to come and the responses already given belong to the host. -/
def resetBlock (s : State) : State :=
  { State.reset with pending := s.pending, responses := s.responses }

/-! ### Output helpers -/

/-- `ClearResult()` (spec/40_commands.md R130). -/
def clearResult (s : State) : State :=
  { s with code := 0, dbc := 0, info := 0, asc := Vector.replicate 16 0 }

/-- Every byte of DIG becomes 0 (spec/40_commands.md R126, spec/60_exceptions.md R232). -/
def clearDigest (s : State) : State := { s with dig := Vector.replicate 64 0 }

/-- The key buffer, KEY_LEN and the counter become 0 (spec/40_commands.md R126). -/
def clearOperands (s : State) : State :=
  { s with key := Vector.replicate 256 0, keyLen := 0, cntHi := 0, cntLo := 0 }

/-- A buffer with the first `len` bytes of a byte string, then zeros (spec/40_commands.md R128, R129). -/
def zeroFilled (n len : Nat) (h : List Byte) : Vector Byte n :=
  bufferOf fun i => if i.val < len then byteAt h i.val else 0

/-- `WriteDigest(alg, H)`: the HLEN(alg) bytes of H, then zeros (spec/40_commands.md R128). -/
def writeDigest (alg : Alg) (h : List Byte) (s : State) : State :=
  { s with dig := zeroFilled 64 (hlen alg) h }

/-- The INFO word of a successful truncation (spec/40_commands.md R129). -/
def infoWord (alg : Alg) (d offset : Nat) : Word :=
  1#32 <<< 31 ||| (algCode alg).zeroExtend 32 <<< 16 ||| BitVec.ofNat 32 d <<< 8
    ||| BitVec.ofNat 32 offset

/-- `WriteResult(alg, d, (offset, D, code, s))` (spec/40_commands.md R129). -/
def writeResult (alg : Alg) (d : Nat) (t : Truncation) (s : State) : State :=
  { s with
    code := t.code
    dbc := t.dbc
    info := infoWord alg d t.offset
    asc := zeroFilled 16 d t.text }

/-! ### Error completion -/

/-- The outputs an error completion clears, by the decoded command; none is an illegal word (spec/60_exceptions.md R232). NOP and CLEAR raise no error. -/
def clearOutputs (cmd : Option Instr) (s : State) : State :=
  match cmd with
  | some .generate => clearResult (clearDigest s)
  | some .hmac => clearResult (clearDigest s)
  | some .truncate => clearResult s
  | some .nop => s
  | some .clear => s
  | none => s

/-- `raise Error(code)`: the error completion (spec/60_exceptions.md R232). -/
def raiseError (cmd : Option Instr) (e : ErrCode) (s : State) : State :=
  { clearOutputs cmd s with errFlag := true, errCode := e, doneFlag := true }

/-! ### Acceptance -/

/-- The first failing check of GENERATE and HMAC, if any, in the order of spec/40_commands.md R120 and spec/60_exceptions.md R233. -/
def keyedCommandError (s : State) : Option ErrCode :=
  if s.keyLen.toNat = 0 then some .missingKey
  else if s.keyLen.toNat > 256 then some .keyTooLong
  else if algOperand s = none then some .unsupportedAlg
  else none

/-- The one check of TRUNCATE (spec/40_commands.md R120). -/
def truncateError (s : State) : Option ErrCode :=
  if algOperand s = none then some .unsupportedAlg else none

/-- A long command accepted without error (spec/40_commands.md R120). -/
def startLong (op : LongOp) (s : State) : State := { s with phase := .busy op }

/-- Acceptance of a long command: an error completes it at once, otherwise the BUSY phase begins (spec/40_commands.md R120). -/
def acceptLong (cmd : Instr) (op : LongOp) (error : Option ErrCode) (s : State) : State :=
  match error with
  | some e => raiseError (some cmd) e (startRecord s)
  | none => startLong op (startRecord s)

/-- A CMD write: dropped with OVR while BUSY, accepted while IDLE (spec/20_memory.md R77, spec/40_commands.md R120). -/
def whenIdle (accepted : State) (s : State) : Host.Outcome State Fault Refusal :=
  if busyFlag s then .next (dropWrite s) else .next accepted

/-! ### Registers -/

/-- The value a read of a register gives (spec/20_memory.md R75). -/
def regRead (r : Reg) (s : State) : Word :=
  match r with
  | .id => idValue
  | .caps => capsValue
  | .ctrl => s.ctrl
  | .cmd => 0
  | .status => statusWord s
  | .keyLen => s.keyLen.zeroExtend 32
  | .cntHi => s.cntHi
  | .cntLo => s.cntLo
  | .code => s.code
  | .dbc => s.dbc
  | .info => s.info
  | .ascii j => bufferWord s.asc j.val
  | .digest j => bufferWord s.dig j.val
  | .keyWord _ => 0

/-- The writable bits of CTRL: ALG, DIGITS, IE_DONE, IE_ERR (spec/20_memory.md R76). -/
def ctrlMask : Word := 0x000003F3

/-- The operand registers: the registers a host writes while IDLE and whose writes are dropped while BUSY, other than CMD (spec/20_memory.md R76, R77). -/
def isOperandReg (r : Reg) : Bool :=
  match r with
  | .ctrl => true
  | .keyLen => true
  | .cntHi => true
  | .cntLo => true
  | .digest _ => true
  | .keyWord _ => true
  | .id => false
  | .caps => false
  | .cmd => false
  | .status => false
  | .code => false
  | .dbc => false
  | .info => false
  | .ascii _ => false

/-- An accepted write of an operand register (spec/20_memory.md R76); any other register is left as it is. -/
def operandWrite (r : Reg) (v : Word) (s : State) : State :=
  match r with
  | .ctrl => { s with ctrl := v &&& ctrlMask }
  | .keyLen => { s with keyLen := v.extractLsb' 0 9 }
  | .cntHi => { s with cntHi := v }
  | .cntLo => { s with cntLo := v }
  | .digest j => { s with dig := setBufferWord s.dig j.val v }
  | .keyWord j => { s with key := setBufferWord s.key j.val v }
  | .id => s
  | .caps => s
  | .cmd => s
  | .status => s
  | .code => s
  | .dbc => s
  | .info => s
  | .ascii _ => s

/-- A write of a register other than CMD: STATUS as R78 in both phases, a read-only register ignored, an operand register written while IDLE and dropped with OVR while BUSY (spec/20_memory.md R76, R77). -/
def plainWrite (r : Reg) (v : Word) (s : State) : State :=
  if r = .status then statusWrite v s
  else if isOperandReg r then (if busyFlag s then dropWrite s else operandWrite r v s)
  else s

end Sys2Proof.Machine
end

