-- ==== Sys2Proof/Machine/Commands.lean ====
section
/-! DEFINITION. The meaning of each command at its CMD write (spec/40_commands.md R120-R127). A long command's completion is the engine's step (Machine/Engine.lean). -/

namespace Sys2Proof.Machine

/-- NOP (R122): no state change at all while IDLE. -/
def execNop (s : State) : Host.Outcome State Fault Refusal := whenIdle s s

/-- GENERATE (R123): the checks of R120, then the BUSY phase. -/
def execGenerate (s : State) : Host.Outcome State Fault Refusal :=
  whenIdle (acceptLong .generate .generate (keyedCommandError s) s) s

/-- HMAC (R124): the same checks as GENERATE, then the BUSY phase. -/
def execHmac (s : State) : Host.Outcome State Fault Refusal :=
  whenIdle (acceptLong .hmac .hmac (keyedCommandError s) s) s

/-- TRUNCATE (R125): only the algorithm is checked, then the BUSY phase. -/
def execTruncate (s : State) : Host.Outcome State Fault Refusal :=
  whenIdle (acceptLong .truncate .truncate (truncateError s) s) s

/-- CLEAR (R126): zeroises operands and results and completes at once. -/
def execClear (s : State) : Host.Outcome State Fault Refusal :=
  whenIdle (setDone (clearResult (clearDigest (clearOperands (startRecord s))))) s

/-- An illegal command word (R127): an error completion that clears no output. -/
def execIllegal (s : State) : Host.Outcome State Fault Refusal :=
  whenIdle (raiseError none .illegalCmd (startRecord s)) s

end Sys2Proof.Machine
end

