-- ==== Sys2Proof/Machine/Dispatch.lean ====
section
/-! DEFINITION. One arm for each command of the opcode table. -/

namespace Sys2Proof.Machine

def exec (i : Instr) (s : State) : Host.Outcome State Fault Refusal :=
  match i with
  | .nop => Sys2Proof.Machine.execNop s
  | .generate => Sys2Proof.Machine.execGenerate s
  | .hmac => Sys2Proof.Machine.execHmac s
  | .truncate => Sys2Proof.Machine.execTruncate s
  | .clear => Sys2Proof.Machine.execClear s

end Sys2Proof.Machine
end

