-- ==== Sys2Proof/Machine/Engine.lean ====
section
/-! DEFINITION. The engine's completion step (spec/40_commands.md R121). -/

namespace Sys2Proof.Machine

/-- The keyed hash of the operands in the registers (R121; spec/41_hmac.md R150, R151, R155). -/
def engineHmac (alg : Alg) (s : State) : List Byte := hmac alg (keyBytes s) (counterMessage s)

/-- The truncation of a digest with the digit count in CTRL (R121; spec/43_truncation.md R216). -/
def engineTruncate (alg : Alg) (h : List Byte) (s : State) : Truncation :=
  truncateDigest alg h (effDigits s)

/-- What each long command writes at its completion, but for PHASE and STATUS (R121). -/
def writeOutputs (op : LongOp) (alg : Alg) (s : State) : State :=
  match op with
  | .generate =>
    writeResult alg (effDigits s) (engineTruncate alg (engineHmac alg s) s)
      (writeDigest alg (engineHmac alg s) s)
  | .hmac => clearResult (writeDigest alg (engineHmac alg s) s)
  | .truncate => writeResult alg (effDigits s) (engineTruncate alg (digestBytes alg s) s) s

/-- The end of a long command: PHASE is IDLE, so BUSY is 0, and DONE is set (R121). -/
def finishLong (s : State) : State := setDone { s with phase := .idle }

/-- The engine's turn: `Complete()` where PHASE = BUSY(op), nothing while IDLE, where no completion is enabled (R121). ALG = 3 never reaches the engine (spec/41_hmac.md R156). -/
def engineStep (s : State) : Host.Outcome State Fault Refusal :=
  match s.phase with
  | .idle => .next s
  | .busy op =>
    match algOperand s with
    | some alg => .next (finishLong (writeOutputs op alg s))
    | none => .fault .unsupportedAlgInEngine

end Sys2Proof.Machine
end

