-- ==== Sys2Proof/Machine/Bus.lean ====
section
/-! DEFINITION. Bus transactions on the register window (spec/20_memory.md R70-R78), the events of the three agents (spec/00_scope.md R11), and placing a command where the next step takes it. -/

namespace Sys2Proof.Machine

/-- `AcceptCommand(w)` for a word written to CMD (spec/40_commands.md R120): the decoded command runs, any other word is illegal (R127). -/
def commandWrite (w : Word) (s : State) : Host.Outcome State Fault Refusal :=
  match decodeCommand w with
  | .ok i => exec i s
  | .error _ => execIllegal s

/-- A write of a register (spec/20_memory.md R76). -/
def regWrite (r : Reg) (v : Word) (s : State) : Host.Outcome State Fault Refusal :=
  if r = .cmd then commandWrite v s else .next (plainWrite r v s)

/-- The block answers `r` where the outcome is a next state. -/
def answer (r : Response) (o : Host.Outcome State Fault Refusal) :
    Host.Outcome State Fault Refusal :=
  match o with
  | .next t => .next (respond r t)
  | .fault f => .fault f
  | .refused r' => .refused r'

/-- A host's read (spec/20_memory.md R75). -/
def busRead (off : Int) (size : Nat) (s : State) : Host.Outcome State Fault Refusal :=
  match decodeAccess off size with
  | .outside => .refused .outsideWindow
  | .busError => .fault .busError
  | .reg r => .next (respond (.data (regRead r s)) s)

/-- A host's write (spec/20_memory.md R76). -/
def busWrite (off : Int) (size : Nat) (v : Word) (s : State) : Host.Outcome State Fault Refusal :=
  match decodeAccess off size with
  | .outside => .refused .outsideWindow
  | .busError => .fault .busError
  | .reg r => answer .ok (regWrite r v s)

/-- `MemRead(addr, n)` at a platform address (spec/20_memory.md R70). -/
def memRead (addr size : Nat) (s : State) : Host.Outcome State Fault Refusal :=
  busRead (addrOffset addr) size s

/-- `MemWrite(addr, n, v)` at a platform address (spec/20_memory.md R70). -/
def memWrite (addr size : Nat) (v : Word) (s : State) : Host.Outcome State Fault Refusal :=
  busWrite (addrOffset addr) size v s

/-- One event acts on the block (spec/00_scope.md R11). -/
def runEvent (e : Event) (s : State) : Host.Outcome State Fault Refusal :=
  match e with
  | .read off size => busRead off size s
  | .write off size v => busWrite off size v s
  | .engine => engineStep s
  | .reset => .next (resetBlock s)

/-- The next event of the schedule acts. When none is left the engine has its turn: a command in progress is completed (weak fairness, spec/70_reset_and_hazards.md R292), and an IDLE block waits (R261). -/
def stepNext (s : State) : Host.Outcome State Fault Refusal :=
  match s.pending with
  | [] => engineStep s
  | e :: rest => runEvent e { s with pending := rest }

/-- The host's next transaction is a write of the word `w` to CMD: the one way a command reaches the block (spec/10_state.md R21). -/
def placeCommand (w : Word) (s : State) : State :=
  { s with pending := .write (regOffset .cmd) 4 w :: s.pending }

end Sys2Proof.Machine
end

