-- ==== Sys2Proof/Machine/Step.lean ====
section
/-! DEFINITION. One step of the machine. -/

namespace Sys2Proof.Machine

/-- One step of one agent (spec/00_scope.md R11). -/
def step (s : State) : Host.Outcome State Fault Refusal := Sys2Proof.Machine.stepNext s

/-- The state with the instruction of `nbits` bits `w` as the host's next CMD write, so that the next step runs it. -/
def State.withFetchWord (s : State) (nbits w : Nat) : State :=
  Sys2Proof.Machine.placeCommand (BitVec.ofNat 32 (tableBits nbits w)) s

end Sys2Proof.Machine
end

