-- ==== Sys2Proof/WellFormed.lean ====
section
/-! DEFINITION. Which commands and which events are well formed. -/

namespace Sys2Proof

/-- Every command is well formed: a command word carries no operand field (spec/30_encoding.md R103), so there is nothing to check. -/
def Instr.wellFormed (i : Instr) : Bool :=
  match i with
  | .nop => true
  | .generate => true
  | .hmac => true
  | .truncate => true
  | .clear => true

/-- The address is in the register window (spec/20_memory.md R70). -/
def inWindow (off : Int) : Bool := decide (0 ≤ off ∧ off < Config.windowBytes)

/-- The transaction has the one accepted size and alignment (spec/20_memory.md R72). -/
def sizedAndAligned (off : Int) (size : Nat) : Bool := decide (size = 4 ∧ off % 4 = 0)

/-- The offset is a reserved one (spec/20_memory.md R74). -/
def reservedOffset (off : Int) : Bool :=
  decide ((0x02C ≤ off ∧ off < 0x040) ∨ (0x050 ≤ off ∧ off < 0x080) ∨ (0x0C0 ≤ off ∧ off < 0x100))

/-- The host addressed a register of the block with an access the block accepts (spec/70_reset_and_hazards.md R293, "what the host must do"). The engine's turn and reset are always well formed. -/
def Event.wellFormed (e : Event) : Bool :=
  match e with
  | .read off size => inWindow off && sizedAndAligned off size && !reservedOffset off
  | .write off size _ => inWindow off && sizedAndAligned off size && !reservedOffset off
  | .engine => true
  | .reset => true

end Sys2Proof
end

