-- ==== Sys2Proof/Safety.lean ====
section
/-! DEFINITION. What counts as a safe state and a safe run: the launch premises and the end of a run (spec/70_reset_and_hazards.md R292, R294), and the invariants of the block. -/

namespace Sys2Proof.Safety

open Sys2Proof.Machine

/-! ### Launch premises and the end of a run -/

/-- `AfterReset` (R294): the block's state is that of R49, whatever is still to come and was answered. -/
abbrev AfterReset (s : State) : Prop := resetBlock s = s

/-- `CleanIdle` (R294): IDLE, so BUSY = 0, and OVR = 0. -/
abbrev CleanIdle (s : State) : Prop := s.phase = .idle ∧ s.ovrFlag = false

/-- The run has ended (R292): no step is left and PHASE is IDLE. -/
abbrev RunEnded (s : State) : Prop := s.pending = [] ∧ s.phase = .idle

/-- The truncation results are valid (R281). -/
abbrev ResultsValid (s : State) : Prop :=
  s.doneFlag = true ∧ s.errFlag = false ∧ infoValid s = true

/-! ### What two states share -/

/-- The operand registers CTRL, KEY_LEN, CNT_HI, CNT_LO and KEY are the same. -/
abbrev SameOperands (s t : State) : Prop :=
  t.ctrl = s.ctrl ∧ t.keyLen = s.keyLen ∧ t.cntHi = s.cntHi ∧ t.cntLo = s.cntLo ∧ t.key = s.key

/-- CODE, DBC, INFO and ASC are the same. -/
abbrev SameResult (s t : State) : Prop :=
  t.code = s.code ∧ t.dbc = s.dbc ∧ t.info = s.info ∧ t.asc = s.asc

/-- The steps still to come and the responses are the same. -/
abbrev SameHost (s t : State) : Prop := t.pending = s.pending ∧ t.responses = s.responses

/-- CODE, DBC, INFO and ASC are empty: the "empty result string" (spec/40_commands.md R130). -/
abbrev EmptyResult (s : State) : Prop :=
  s.code = 0 ∧ s.dbc = 0 ∧ s.info = 0 ∧ s.asc = Vector.replicate 16 0

/-- CTRL without its two interrupt enables, and no responses: the state apart from IE_DONE, IE_ERR and the answers given to the host. -/
def eraseEnables (s : State) : State := { s with ctrl := s.ctrl &&& 0xFFFFFCFF, responses := [] }

/-- An outcome with its next state, if any, changed by `f`. -/
def mapNext (f : State → State) (o : Host.Outcome State Fault Refusal) :
    Host.Outcome State Fault Refusal :=
  match o with
  | .next t => .next (f t)
  | .fault r => .fault r
  | .refused r => .refused r

/-! ### Whose turn it is -/

/-- The next step is the engine's: its event, or no event left (the model's choice, notes/assumptions/1.md). -/
abbrev EngineTurn (s : State) : Prop := s.pending = [] ∨ ∃ rest, s.pending = .engine :: rest

/-- The next step is the reset event. -/
abbrev ResetTurn (s : State) : Prop := ∃ rest, s.pending = .reset :: rest

/-- The next step is a read of the register `r`. -/
abbrev ReadTurn (r : Reg) (s : State) : Prop := ∃ rest, s.pending = .read (regOffset r) 4 :: rest

/-- The next step is an accepted write of `v` to the register `r`. -/
abbrev WriteTurn (r : Reg) (v : Word) (s : State) : Prop :=
  ∃ rest, s.pending = .write (regOffset r) 4 v :: rest

/-- The next step is a CMD write of the command `i` while IDLE, so that `i` is accepted. -/
abbrev AcceptTurn (i : Instr) (s : State) : Prop :=
  s.phase = .idle ∧ WriteTurn .cmd (encodeCommand i) s

/-- The next step is a CMD write of an illegal word while IDLE. -/
abbrev IllegalTurn (s : State) : Prop :=
  s.phase = .idle ∧ ∃ w, WriteTurn .cmd w s ∧ 4 < w.toNat

/-- The state a transaction leaves that changes nothing of the block: the event is taken and answered `r`. The two lists are the model's own (notes/assumptions/1.md, 2.md). -/
def afterTransaction (r : Response) (s : State) : State :=
  respond r { s with pending := s.pending.tail }

/-! ### When a command runs without error -/

/-- GENERATE and HMAC raise no error: 1 to 256 key bytes and a supported algorithm (spec/40_commands.md R120). -/
abbrev KeyedReady (s : State) : Prop :=
  s.phase = .idle ∧ 1 ≤ s.keyLen.toNat ∧ s.keyLen.toNat ≤ 256 ∧ algField s ≠ 3

/-- TRUNCATE raises no error: a supported algorithm (spec/40_commands.md R120). -/
abbrev TruncateReady (s : State) : Prop := s.phase = .idle ∧ algField s ≠ 3

/-! ### What a step does to the record -/

/-- The step is an error completion (spec/60_exceptions.md R231): an illegal word, or a long command whose checks fail. -/
abbrev ErrorTurn (s : State) : Prop :=
  IllegalTurn s
    ∨ ((AcceptTurn .generate s ∨ AcceptTurn .hmac s) ∧ ¬KeyedReady s)
    ∨ (AcceptTurn .truncate s ∧ ¬TruncateReady s)

/-- The step is a completion (spec/10_state.md R32): the engine's of a long command (with no event left too: the model's choice, notes/assumptions/1.md), CLEAR's, or an error's. -/
abbrev CompletionTurn (s : State) : Prop :=
  (EngineTurn s ∧ s.phase ≠ .idle) ∨ AcceptTurn .clear s ∨ ErrorTurn s

/-- The step clears DONE (bit 1) or ERR (bit 2): the acceptance of any command other than NOP, a write of 1 to the bit, or reset (spec/10_state.md R32, R33). -/
abbrev RecordClearTurn (bit : Nat) (s : State) : Prop :=
  AcceptTurn .generate s ∨ AcceptTurn .hmac s ∨ AcceptTurn .truncate s ∨ AcceptTurn .clear s
    ∨ IllegalTurn s ∨ (∃ v, WriteTurn .status v s ∧ v.getLsbD bit = true) ∨ ResetTurn s

/-- The step is a write that is dropped (spec/10_state.md R34): an operand register or CMD, while BUSY. -/
abbrev DropTurn (s : State) : Prop :=
  s.phase ≠ .idle ∧ ∃ r v, (isOperandReg r = true ∨ r = .cmd) ∧ WriteTurn r v s

/-! ### Invariants -/

/-- INFO.OFFSET (spec/10_state.md R44). -/
def infoOffset (s : State) : BitVec 4 := s.info.extractLsb' 0 4

/-- INFO.DIGITS_USED (spec/10_state.md R44). -/
def infoDigits (s : State) : BitVec 4 := s.info.extractLsb' 8 4

/-- INFO.ALG_USED (spec/10_state.md R44). -/
def infoAlg (s : State) : BitVec 2 := s.info.extractLsb' 16 2

/-- The number an ASCII decimal string stands for. -/
def decimalValue (text : List Byte) : Nat :=
  text.foldl (fun acc b => 10 * acc + (b.toNat - 0x30)) 0

/-- An ASCII decimal digit, 0x30..0x39 (spec/43_truncation.md R215). -/
abbrev IsDigit (b : Byte) : Prop := 0x30 ≤ b.toNat ∧ b.toNat ≤ 0x39

/-- The reserved bits of CTRL and INFO are zero, and bit 31 of CODE and DBC too (spec/10_state.md R42, R43, R44, R48). -/
abbrev ReservedInv (s : State) : Prop :=
  s.ctrl &&& 0xFFFFFC0C = 0 ∧ s.info &&& 0x7FFCF0F0 = 0
    ∧ s.code.getLsbD 31 = false ∧ s.dbc.getLsbD 31 = false

/-- While BUSY the operands pass the acceptance checks and the record is empty (spec/40_commands.md R120, R121; spec/41_hmac.md R151, R156). -/
abbrev EngineInv (s : State) : Prop :=
  s.phase ≠ .idle →
    algField s ≠ 3
      ∧ (s.phase ≠ .busy .truncate → 1 ≤ s.keyLen.toNat ∧ s.keyLen.toNat ≤ 256)
      ∧ s.doneFlag = false ∧ s.errFlag = false ∧ s.errCode = .noError

/-- ERRCODE is NONE exactly while ERR is 0, and never HASH_FAILURE (spec/10_state.md R33, R35; spec/60_exceptions.md R231). -/
abbrev RecordInv (s : State) : Prop :=
  (s.errFlag = false ↔ s.errCode = .noError) ∧ s.errCode ≠ .hashFailure

/-- The results are empty while INFO.VALID = 0, and otherwise describe one truncation: DIGITS_USED is the length of the text, CODE is DBC mod 10^d, and the text is CODE in decimal, zero-filled (spec/10_state.md R42-R45). -/
abbrev ResultInv (s : State) : Prop :=
  (infoValid s = false → EmptyResult s)
    ∧ (infoValid s = true →
      infoAlg s ≠ 3 ∧ 1 ≤ (infoDigits s).toNat
        ∧ s.code.toNat = s.dbc.toNat % 10 ^ (infoDigits s).toNat
        ∧ (∀ i : Fin 16, if i.val < (infoDigits s).toNat then IsDigit s.asc[i] else s.asc[i] = 0)
        ∧ decimalValue (s.asc.toList.take (infoDigits s).toNat) = s.code.toNat)

/-- All the invariants of the block. -/
abbrev BlockInv (s : State) : Prop :=
  ReservedInv s ∧ EngineInv s ∧ RecordInv s ∧ ResultInv s

end Sys2Proof.Safety
end

