-- ==== Sys2Proof/Certificates/Slice0/Obligations.lean ====
section
/-! DEFINITION. The statements for the provers. Each docstring names the rules of spec/ it comes from. -/

open Sys2Proof Sys2Proof.Machine Sys2Proof.Safety

/-! ### Encoding -/

/-- R102, R106: the words of the opcode map, and illegal ones beside them. -/
def Obligations.CommandWordsDecodeAsTheMapSays : Prop :=
  decodeCommand 0b00000000000000000000000000000000#32 = .ok .nop
    ∧ decodeCommand 0b00000000000000000000000000000001#32 = .ok .generate
    ∧ decodeCommand 0b00000000000000000000000000000010#32 = .ok .hmac
    ∧ decodeCommand 0b00000000000000000000000000000011#32 = .ok .truncate
    ∧ decodeCommand 0b00000000000000000000000000000100#32 = .ok .clear
    ∧ decodeCommand 0b00000000000000000000000000000101#32 = .error .reservedOpcode
    ∧ decodeCommand 0b00000000000000000000000000001111#32 = .error .reservedOpcode
    ∧ decodeCommand 0b00000000000000000000000000010000#32 = .error .reservedBits
    ∧ decodeCommand 0b10000000000000000000000000000001#32 = .error .reservedBits

/-- R106: the words of the five commands, the decoder's inverse, and no other word legal. -/
def Obligations.DecodeInvertsEncode : Prop :=
  encodeCommand .nop = 0 ∧ encodeCommand .generate = 1 ∧ encodeCommand .hmac = 2
    ∧ encodeCommand .truncate = 3 ∧ encodeCommand .clear = 4
    ∧ (∀ i : Instr, decodeCommand (encodeCommand i) = .ok i)
    ∧ (∀ (w : Word) (i : Instr), decodeCommand w = .ok i → w = encodeCommand i)
    ∧ (∀ w : Word, (∃ i, decodeCommand w = .ok i) ↔ w.toNat ≤ 4)
    ∧ (∀ w : Word, w.extractLsb' 4 28 ≠ 0 → decodeCommand w = .error .reservedBits)

/-- R20, R72, R74: the offsets of the register table, and an access reaches a register exactly at its offset and with 4 bytes, so no two registers share an offset. -/
def Obligations.RegisterMapDecodesExactly : Prop :=
  regOffset .id = 0x000 ∧ regOffset .caps = 0x004 ∧ regOffset .ctrl = 0x008
    ∧ regOffset .cmd = 0x00C ∧ regOffset .status = 0x010 ∧ regOffset .keyLen = 0x014
    ∧ regOffset .cntHi = 0x018 ∧ regOffset .cntLo = 0x01C ∧ regOffset .code = 0x020
    ∧ regOffset .dbc = 0x024 ∧ regOffset .info = 0x028
    ∧ (∀ j : Fin 4, regOffset (.ascii j) = 0x040 + 4 * j.val)
    ∧ (∀ j : Fin 16, regOffset (.digest j) = 0x080 + 4 * j.val)
    ∧ (∀ j : Fin 64, regOffset (.keyWord j) = 0x100 + 4 * j.val)
    ∧ ∀ (off : Int) (size : Nat) (r : Reg),
      decodeAccess off size = .reg r ↔ off = (regOffset r : Int) ∧ size = 4

/-! ### Steps and transactions -/

/-- R120, R21: a CMD write of a word that decodes to `i` is `i` run on the state less that event, answered ok. -/
def Obligations.StepRunsTheDecodedCommand : Prop :=
  ∀ (s : State) (w : Word) (i : Instr), WriteTurn .cmd w s → decodeCommand w = .ok i →
    step s = answer .ok (exec i { s with pending := s.pending.tail })

/-- R72, R74: inside the window a transaction is a BusError exactly when its size is not 4, its address is misaligned or its offset is reserved; otherwise it is accepted. -/
def Obligations.BusErrorExactlyWhereTheMapSays : Prop :=
  ∀ (s : State) (off : Int) (size : Nat) (v : Word), 0 ≤ off → off < 0x200 →
    (if size ≠ 4 ∨ off % 4 ≠ 0 ∨ (0x02C ≤ off ∧ off < 0x040) ∨ (0x050 ≤ off ∧ off < 0x080)
        ∨ (0x0C0 ≤ off ∧ off < 0x100) then
      busRead off size s = .fault .busError ∧ busWrite off size v s = .fault .busError
    else
      (∃ t, busRead off size s = .next t) ∧ (∃ t, busWrite off size v s = .next t))

/-- R70, R84: BASE only shifts the window, keeps the alignment, and an address outside the window is not decoded (the name of that refusal is the model's, log entry 5). -/
def Obligations.PlacementOnlyShiftsTheWindow : Prop :=
  (∀ (s : State) (off size : Nat) (v : Word),
      memRead (Config.base + off) size s = busRead off size s
        ∧ memWrite (Config.base + off) size v s = busWrite off size v s)
    ∧ (∀ addr : Nat, addr % 4 = 0 ↔ addrOffset addr % 4 = 0)
    ∧ (∀ (s : State) (addr size : Nat) (v : Word),
        addr < Config.base ∨ Config.base + 0x200 ≤ addr →
        memRead addr size s = .refused .outsideWindow
          ∧ memWrite addr size v s = .refused .outsideWindow)

/-- R75: a read changes nothing but its response, in every phase, and the response is the register's value. -/
def Obligations.ReadHasNoSideEffect : Prop :=
  ∀ (s : State) (r : Reg), ReadTurn r s →
    step s = .next (afterTransaction (.data (regRead r s)) s)
      ∧ regRead .id s = 0x4F545031 ∧ regRead .caps s = 0x0000F407
      ∧ regRead .ctrl s = s.ctrl ∧ regRead .cmd s = 0
      ∧ (regRead .keyLen s).toNat = s.keyLen.toNat
      ∧ regRead .cntHi s = s.cntHi ∧ regRead .cntLo s = s.cntLo
      ∧ regRead .code s = s.code ∧ regRead .dbc s = s.dbc ∧ regRead .info s = s.info
      ∧ ∀ j, regRead (.keyWord j) s = 0

/-- R22, R23: ID and CAPS read as their constants, with CAPS's fields as the table gives them, and writing them changes nothing. -/
def Obligations.IdentificationIsConstant : Prop :=
  ∀ s : State,
    regRead .id s = 0x4F545031 ∧ regRead .id s = be32 0x4F 0x54 0x50 0x31
      ∧ regRead .caps s = 0x0000F407
      ∧ (regRead .caps s).extractLsb' 0 3 = 0b111 ∧ (regRead .caps s).extractLsb' 3 1 = 0
      ∧ (regRead .caps s).extractLsb' 4 8 = 0x40 ∧ (regRead .caps s).extractLsb' 12 4 = 0xF
      ∧ (regRead .caps s).extractLsb' 16 16 = 0
      ∧ ∀ v, (WriteTurn .id v s ∨ WriteTurn .caps v s) → step s = .next (afterTransaction .ok s)

/-- R40: the three buffers pack big-endian, byte 4j of the buffer at bits 31:24 of word j: in what a read of ASCII or DIGEST gives, and in what a write of DIGEST or KEY sets. -/
def Obligations.BuffersPackBigEndian : Prop :=
  ∀ s : State,
    (∀ (j b : Fin 4) (i : Fin 16), i.val = 4 * j.val + b.val →
        (regRead (.ascii j) s).extractLsb' (24 - 8 * b.val) 8 = s.asc[i])
      ∧ (∀ (j : Fin 16) (b : Fin 4) (i : Fin 64), i.val = 4 * j.val + b.val →
        (regRead (.digest j) s).extractLsb' (24 - 8 * b.val) 8 = s.dig[i])
      ∧ (∀ (j : Fin 16) (v : Word) (i : Fin 64),
        (operandWrite (.digest j) v s).dig[i]
          = if i.val / 4 = j.val then v.extractLsb' (24 - 8 * (i.val % 4)) 8 else s.dig[i])
      ∧ (∀ (j : Fin 64) (v : Word) (i : Fin 256),
        (operandWrite (.keyWord j) v s).key[i]
          = if i.val / 4 = j.val then v.extractLsb' (24 - 8 * (i.val % 4)) 8 else s.key[i])

/-- R76, R48, R39: while IDLE a write of an operand register is the accepted write and its answer: a later read gives what was written, reserved bits reading 0 and KEY reading 0; a write of KEY sets the four bytes of its word, big-endian, and no other byte of the key buffer; every other register reads as before, but that STATUS.IRQ follows the enables. -/
def Obligations.OperandWriteReadsBack : Prop :=
  ∀ (s : State) (r : Reg) (v : Word), s.phase = .idle → isOperandReg r = true → WriteTurn r v s →
    ∃ t, step s = .next t
      ∧ t = respond .ok (operandWrite r v { s with pending := s.pending.tail })
      ∧ regRead r t = (match r with
          | .ctrl => v &&& 0x000003F3
          | .keyLen => v &&& 0x000001FF
          | .keyWord _ => 0
          | _ => v)
      ∧ (∀ j, r = .keyWord j → ∀ i : Fin 256,
        t.key[i] = if i.val / 4 = j.val then v.extractLsb' (24 - 8 * (i.val % 4)) 8 else s.key[i])
      ∧ (∀ r', r' ≠ r → (r = .ctrl → r' ≠ .status) → regRead r' t = regRead r' s)
      ∧ ((∀ j, r ≠ .keyWord j) → t.key = s.key)
      ∧ statusWord t &&& 0x0FF = statusWord s &&& 0x0FF

/-- R77: while BUSY a write of an operand register or of CMD, whatever the word, is answered ok and sets OVR and nothing else; a write of a read-only register changes nothing in either phase, and a write of STATUS does the same in both. -/
def Obligations.WriteWhileBusyIsDropped : Prop :=
  (∀ (s : State) (r : Reg) (v : Word), s.phase ≠ .idle → isOperandReg r = true ∨ r = .cmd →
      WriteTurn r v s → step s = .next { afterTransaction .ok s with ovrFlag := true })
    ∧ (∀ (s : State) (r : Reg) (v : Word), isOperandReg r = false → r ≠ .cmd → r ≠ .status →
      WriteTurn r v s → step s = .next (afterTransaction .ok s))
    ∧ (∀ (s : State) (v : Word), WriteTurn .status v s →
      step s = .next (statusWrite v (afterTransaction .ok s)))
    ∧ (∀ r, isOperandReg r = true ↔
      r = .ctrl ∨ r = .keyLen ∨ r = .cntHi ∨ r = .cntLo ∨ (∃ j, r = .digest j)
        ∨ (∃ j, r = .keyWord j))

/-- R78: a write to STATUS clears DONE, ERR with ERRCODE, and OVR where the word has a 1, in both phases, and changes nothing else; `irq` follows at once. -/
def Obligations.StatusWriteClearsItsBits : Prop :=
  ∀ (s : State) (v : Word), WriteTurn .status v s →
    ∃ t, step s = .next t
      ∧ t = { afterTransaction .ok s with
        doneFlag := s.doneFlag && !v.getLsbD 1
        errFlag := s.errFlag && !v.getLsbD 2
        errCode := if v.getLsbD 2 then .noError else s.errCode
        ovrFlag := s.ovrFlag && !v.getLsbD 3 }
      ∧ irq t = (s.doneFlag && !v.getLsbD 1 && s.ctrl.getLsbD 8
        || s.errFlag && !v.getLsbD 2 && s.ctrl.getLsbD 9)

/-! ### Status and interrupt -/

/-- R30, R230: the fields a read of STATUS gives. -/
def Obligations.StatusReadFields : Prop :=
  ∀ s : State,
    ((regRead .status s).getLsbD 0 = true ↔ s.phase ≠ .idle)
      ∧ (regRead .status s).getLsbD 1 = s.doneFlag ∧ (regRead .status s).getLsbD 2 = s.errFlag
      ∧ (regRead .status s).getLsbD 3 = s.ovrFlag
      ∧ ((regRead .status s).extractLsb' 4 4).toNat = (match s.errCode with
          | .noError => 0
          | .missingKey => 1
          | .unsupportedAlg => 2
          | .keyTooLong => 3
          | .hashFailure => 4
          | .illegalCmd => 5)
      ∧ (regRead .status s).getLsbD 8 = irq s
      ∧ (regRead .status s).extractLsb' 9 23 = 0

/-- R47, R36, R240: `irq` is (DONE and IE_DONE) or (ERR and IE_ERR) as the registers read, drives the line IRQ_LINE alone, and is 0 at reset. -/
def Obligations.InterruptIsTheLevelOfItsFourBits : Prop :=
  (∀ s : State,
      irq s = ((regRead .status s).getLsbD 1 && (regRead .ctrl s).getLsbD 8
        || (regRead .status s).getLsbD 2 && (regRead .ctrl s).getLsbD 9)
      ∧ (regRead .status s).getLsbD 8 = irq s
      ∧ ∀ line, drivesLine line s = true ↔ line = Config.irqLine ∧ irq s = true)
    ∧ irq State.reset = false

/-- R27, R28: the interrupt enables change nothing but what CTRL and STATUS.IRQ read as and the level of `irq`: two states alike but for them, and for the answers given so far, stay so at every step; the step adds the same answers in both, unless it reads CTRL or STATUS; and what these two read as differs in the enables and in STATUS.IRQ alone. -/
def Obligations.InterruptEnablesHaveNoOtherEffect : Prop :=
  ∀ s s' : State, eraseEnables s = eraseEnables s' →
    mapNext eraseEnables (step s) = mapNext eraseEnables (step s')
      ∧ (∀ t t', ¬ReadTurn .ctrl s → ¬ReadTurn .status s → step s = .next t → step s' = .next t' →
        ∃ new, t.responses = s.responses ++ new ∧ t'.responses = s'.responses ++ new)
      ∧ regRead .ctrl s &&& 0xFFFFFCFF = regRead .ctrl s' &&& 0xFFFFFCFF
      ∧ regRead .status s &&& 0xFFFFFEFF = regRead .status s' &&& 0xFFFFFEFF

/-- R31, R11, R292: an accepted long command whose checks pass makes the phase BUSY with it; BUSY goes on, with the same command, through every step that is no engine's turn and no reset; after a step the phase is BUSY in these cases alone; STATUS bit 0 reads it. (That the turn is the engine's when no event is left is the model's choice, log entry 1.) -/
def Obligations.BusyFollowsItsCommands : Prop :=
  ∀ s t : State, step s = .next t →
    (AcceptTurn .generate s → KeyedReady s → t.phase = .busy .generate)
      ∧ (AcceptTurn .hmac s → KeyedReady s → t.phase = .busy .hmac)
      ∧ (AcceptTurn .truncate s → TruncateReady s → t.phase = .busy .truncate)
      ∧ (s.phase ≠ .idle → ¬EngineTurn s → ¬ResetTurn s → t.phase = s.phase)
      ∧ (t.phase ≠ .idle ↔
        (AcceptTurn .generate s ∧ KeyedReady s) ∨ (AcceptTurn .hmac s ∧ KeyedReady s)
          ∨ (AcceptTurn .truncate s ∧ TruncateReady s)
          ∨ (s.phase ≠ .idle ∧ ¬EngineTurn s ∧ ¬ResetTurn s))
      ∧ ((regRead .status t).getLsbD 0 = true ↔ t.phase ≠ .idle)

/-- R32, R11, R292: DONE is 1 after a step exactly if the step is a completion (a long command's, CLEAR's, an error's), or it was 1 and the step does not clear it. (That a BUSY state with no event left completes its command is the model's choice, log entry 1.) -/
def Obligations.DoneFollowsItsCauses : Prop :=
  ∀ s t : State, step s = .next t →
    (t.doneFlag = true ↔ CompletionTurn s ∨ (s.doneFlag = true ∧ ¬RecordClearTurn 1 s))

/-- R33, R35: ERR is 1 after a step exactly if the step is an error completion, which sets DONE too, or it was 1 and the step does not clear it; ERRCODE is cleared with it. -/
def Obligations.ErrorFollowsItsCauses : Prop :=
  ∀ s t : State, step s = .next t →
    ((t.errFlag = true ↔ ErrorTurn s ∨ (s.errFlag = true ∧ ¬RecordClearTurn 2 s))
      ∧ (ErrorTurn s → t.errCode ≠ .noError ∧ t.doneFlag = true)
      ∧ (¬ErrorTurn s → RecordClearTurn 2 s → t.errCode = .noError)
      ∧ (¬RecordClearTurn 2 s → t.errCode = s.errCode))

/-- R34: OVR is 1 after a step exactly if the step is a dropped write, or it was 1 and the step neither writes 1 to it nor is reset; it takes no part in `irq`. -/
def Obligations.OverrunIsSticky : Prop :=
  ∀ s t : State, step s = .next t →
    ((t.ovrFlag = true ↔ DropTurn s
        ∨ (s.ovrFlag = true ∧ ¬(∃ v, WriteTurn .status v s ∧ v.getLsbD 3 = true) ∧ ¬ResetTurn s))
      ∧ (DropTurn s → t = { afterTransaction .ok s with ovrFlag := true })
      ∧ ∀ b, irq { s with ovrFlag := b } = irq s)

/-! ### Commands -/

/-- R122: NOP while IDLE changes nothing; while BUSY it is a dropped write; a word with OP = 0 and RSV /= 0 is not NOP. -/
def Obligations.NopDoesNothing : Prop :=
  (∀ s : State, s.phase = .idle → exec .nop s = .next s)
    ∧ (∀ s : State, s.phase ≠ .idle → exec .nop s = .next { s with ovrFlag := true })
    ∧ decodeCommand 0x00000000 = .ok .nop
    ∧ ∀ w : Word, w.extractLsb' 0 4 = 0 → w.extractLsb' 4 28 ≠ 0 →
        decodeCommand w = .error .reservedBits

/-- R120: GENERATE is accepted, with the record cleared and the BUSY phase begun, and nothing else changed. -/
def Obligations.GenerateIsAccepted : Prop :=
  ∀ s : State, KeyedReady s →
    exec .generate s = .next
      { s with doneFlag := false, errFlag := false, errCode := .noError, phase := .busy .generate }

/-- R120: HMAC is accepted, with the record cleared and the BUSY phase begun, and nothing else changed. -/
def Obligations.HmacIsAccepted : Prop :=
  ∀ s : State, KeyedReady s →
    exec .hmac s = .next
      { s with doneFlag := false, errFlag := false, errCode := .noError, phase := .busy .hmac }

/-- R120: TRUNCATE is accepted without any check of the key, with the record cleared and the BUSY phase begun, and nothing else changed. -/
def Obligations.TruncateIsAccepted : Prop :=
  ∀ s : State, TruncateReady s →
    exec .truncate s = .next
      { s with doneFlag := false, errFlag := false, errCode := .noError, phase := .busy .truncate }

/-- R123, R121, R128, R129: GENERATE from acceptance to completion: the digest is the HMAC, zero-filled; DBC, CODE, INFO and ASC describe its truncation; DONE is set; nothing else changes. -/
def Obligations.GenerateComputesTheCode : Prop :=
  ∀ (s : State) (alg : Alg), KeyedReady s → algOfCode (algField s) = some alg →
    ∃ a t, exec .generate s = .next a ∧ engineStep a = .next t
      ∧ (∀ i : Fin 64, t.dig[i]
          = if i.val < hlen alg then (hmac alg (keyBytes s) (counterMessage s)).getD i.val 0 else 0)
      ∧ t.dbc = truncDbc alg (hmac alg (keyBytes s) (counterMessage s))
      ∧ t.code.toNat = t.dbc.toNat % 10 ^ effDigits s
      ∧ infoValid t = true ∧ infoAlg t = algCode alg ∧ (infoDigits t).toNat = effDigits s
      ∧ (infoOffset t).toNat = truncOffset alg (hmac alg (keyBytes s) (counterMessage s))
      ∧ (regRead .info t).toNat = 2 ^ 31 + (algCode alg).toNat * 2 ^ 16 + effDigits s * 2 ^ 8
        + truncOffset alg (hmac alg (keyBytes s) (counterMessage s))
      ∧ (∀ i : Fin 16, t.asc[i]
          = if i.val < effDigits s then (renderCode t.code (effDigits s)).getD i.val 0 else 0)
      ∧ t.phase = .idle ∧ t.doneFlag = true ∧ t.errFlag = false ∧ t.errCode = .noError
      ∧ t.ovrFlag = s.ovrFlag ∧ SameOperands s t ∧ SameHost s t

/-- R124, R121, R128, R130: HMAC from acceptance to completion: the digest is the HMAC, zero-filled, the results are empty, DONE is set, and nothing else changes. -/
def Obligations.HmacWritesTheDigest : Prop :=
  ∀ (s : State) (alg : Alg), KeyedReady s → algOfCode (algField s) = some alg →
    ∃ a t, exec .hmac s = .next a ∧ engineStep a = .next t
      ∧ (∀ i : Fin 64, t.dig[i]
          = if i.val < hlen alg then (hmac alg (keyBytes s) (counterMessage s)).getD i.val 0 else 0)
      ∧ EmptyResult t ∧ infoValid t = false
      ∧ t.phase = .idle ∧ t.doneFlag = true ∧ t.errFlag = false ∧ t.errCode = .noError
      ∧ t.ovrFlag = s.ovrFlag ∧ SameOperands s t ∧ SameHost s t

/-- R125, R121, R129: TRUNCATE from acceptance to completion: DBC, CODE, INFO and ASC describe the truncation of the first HLEN bytes of DIG, which is kept; DONE is set; nothing else changes. -/
def Obligations.TruncateComputesTheCode : Prop :=
  ∀ (s : State) (alg : Alg), TruncateReady s → algOfCode (algField s) = some alg →
    ∃ a t, exec .truncate s = .next a ∧ engineStep a = .next t
      ∧ (infoOffset t).toNat = ((s.dig.toList.getD (hlen alg - 1) 0).toNat) % 16
      ∧ (∀ b : Fin 4, t.dbc.extractLsb' (24 - 8 * b.val) 8
          = (s.dig.toList.getD ((infoOffset t).toNat + b.val) 0) &&& (if b.val = 0 then 0x7F else 0xFF))
      ∧ t.code.toNat = t.dbc.toNat % 10 ^ effDigits s
      ∧ infoValid t = true ∧ infoAlg t = algCode alg ∧ (infoDigits t).toNat = effDigits s
      ∧ (regRead .info t).toNat = 2 ^ 31 + (algCode alg).toNat * 2 ^ 16 + effDigits s * 2 ^ 8
        + (s.dig.toList.getD (hlen alg - 1) 0).toNat % 16
      ∧ (∀ i : Fin 16, t.asc[i]
          = if i.val < effDigits s then (renderCode t.code (effDigits s)).getD i.val 0 else 0)
      ∧ t.dig = s.dig
      ∧ t.phase = .idle ∧ t.doneFlag = true ∧ t.errFlag = false ∧ t.errCode = .noError
      ∧ t.ovrFlag = s.ovrFlag ∧ SameOperands s t ∧ SameHost s t

/-- R126: CLEAR zeroises key, counter, digest and results at once and keeps CTRL, OVR and PHASE; while BUSY it is dropped; a state with KEY_LEN = 0, such as it leaves, makes GENERATE raise MISSING_KEY. -/
def Obligations.ClearZeroisesAtOnce : Prop :=
  (∀ s : State, s.phase = .idle →
      exec .clear s = .next
        { s with
          key := Vector.replicate 256 0, keyLen := 0, cntHi := 0, cntLo := 0
          dig := Vector.replicate 64 0
          code := 0, dbc := 0, info := 0, asc := Vector.replicate 16 0
          doneFlag := true, errFlag := false, errCode := .noError })
    ∧ (∀ s : State, s.phase ≠ .idle → exec .clear s = .next { s with ovrFlag := true })
    ∧ (∀ s t : State, s.phase = .idle → exec .clear s = .next t →
      regRead .status t &&& 0x0FF = if s.ovrFlag then 0x0A else 0x02)
    ∧ (∀ s : State, s.phase = .idle → s.keyLen = 0 →
      ∃ t, exec .generate s = .next t ∧ t.errCode = .missingKey ∧ t.errFlag = true)

/-- R127, R101: an illegal word, RSV /= 0 or OP in 5..15, sets DONE, ERR and ERRCODE = 5 while IDLE and clears no output; while BUSY it is dropped with OVR. -/
def Obligations.IllegalWordIsAnErrorCompletion : Prop :=
  ∀ (s : State) (w : Word), w.extractLsb' 4 28 ≠ 0 ∨ 5 ≤ (w.extractLsb' 0 4).toNat →
    WriteTurn .cmd w s →
    (s.phase = .idle →
      step s = .next
        { afterTransaction .ok s with doneFlag := true, errFlag := true, errCode := .illegalCmd }
      ∧ errCodeValue .illegalCmd = 5)
    ∧ (s.phase ≠ .idle → step s = .next { afterTransaction .ok s with ovrFlag := true })

/-- R232: what an error completion clears and keeps: GENERATE and HMAC clear DIG and the results, TRUNCATE the results alone, an illegal word nothing; DONE, ERR and ERRCODE are set, and operands, CTRL, OVR and PHASE are kept. -/
def Obligations.ErrorCompletionClearsTheOutputs : Prop :=
  ∀ (s : State) (e : ErrCode), s.phase = .idle →
    (∀ i, i = .generate ∨ i = .hmac → keyedCommandError s = some e →
      exec i s = .next
        { s with
          dig := Vector.replicate 64 0
          code := 0, dbc := 0, info := 0, asc := Vector.replicate 16 0
          doneFlag := true, errFlag := true, errCode := e })
    ∧ (truncateError s = some e →
      exec .truncate s = .next
        { s with
          code := 0, dbc := 0, info := 0, asc := Vector.replicate 16 0
          doneFlag := true, errFlag := true, errCode := e })
    ∧ (execIllegal s = .next { s with doneFlag := true, errFlag := true, errCode := .illegalCmd })

/-- R233, R231: the one error reported is the first in the order ILLEGAL_CMD, MISSING_KEY, KEY_TOO_LONG, UNSUPPORTED_ALG; for TRUNCATE only the last applies. -/
def Obligations.ErrorPriority : Prop :=
  (∀ (s : State) (w : Word), s.phase = .idle → 4 < w.toNat →
      ∃ t, commandWrite w s = .next t ∧ t.errFlag = true ∧ t.errCode = .illegalCmd)
    ∧ (∀ (s : State) (i : Instr), s.phase = .idle → i = .generate ∨ i = .hmac →
      ∃ t, exec i s = .next t
        ∧ (s.keyLen.toNat = 0 → t.errFlag = true ∧ t.errCode = .missingKey)
        ∧ (256 < s.keyLen.toNat → t.errFlag = true ∧ t.errCode = .keyTooLong)
        ∧ (1 ≤ s.keyLen.toNat → s.keyLen.toNat ≤ 256 → algField s = 3 →
          t.errFlag = true ∧ t.errCode = .unsupportedAlg)
        ∧ (1 ≤ s.keyLen.toNat → s.keyLen.toNat ≤ 256 → algField s ≠ 3 →
          t.errFlag = false ∧ t.errCode = .noError))
    ∧ (∀ s : State, s.phase = .idle →
      ∃ t, exec .truncate s = .next t
        ∧ (algField s = 3 → t.errFlag = true ∧ t.errCode = .unsupportedAlg)
        ∧ (algField s ≠ 3 → t.errFlag = false ∧ t.errCode = .noError))

/-- R120, R126, R132: the frame of the five commands: CTRL and the host's lists never change, OVR only by a dropped write, the operands only by CLEAR, the digest and the results only by CLEAR or an error, PHASE only from IDLE to BUSY. -/
def Obligations.CommandFrame : Prop :=
  ∀ (i : Instr) (s t : State), exec i s = .next t →
    SameHost s t ∧ t.ctrl = s.ctrl
      ∧ (s.phase ≠ .idle → t = { s with ovrFlag := true })
      ∧ (s.phase = .idle → t.ovrFlag = s.ovrFlag)
      ∧ (i ≠ .clear → SameOperands s t)
      ∧ (i = .nop → s.phase = .idle → t = s)
      ∧ (i ≠ .clear → s.phase = .idle → t.errFlag = false → SameResult s t ∧ t.dig = s.dig)
      ∧ (i = .truncate → t.dig = s.dig)
      ∧ (i = .nop ∨ i = .clear → t.phase = s.phase)
      ∧ (s.phase = .idle → t.errFlag = true → t.phase = .idle)

/-- R121: the frame of the engine's turn: nothing changes while IDLE (the model's choice, log entry 1); a completion keeps operands, ERR, ERRCODE, OVR and the host's lists, and TRUNCATE's keeps the digest. -/
def Obligations.EngineFrame : Prop :=
  ∀ s t : State, engineStep s = .next t →
    SameHost s t ∧ SameOperands s t ∧ t.ovrFlag = s.ovrFlag ∧ t.errFlag = s.errFlag
      ∧ t.errCode = s.errCode
      ∧ (s.phase = .idle → t = s)
      ∧ (s.phase ≠ .idle → t.phase = .idle ∧ t.doneFlag = true)
      ∧ (s.phase = .busy .truncate → t.dig = s.dig)
      ∧ (s.phase = .busy .hmac → EmptyResult t)

/-! ### Whole-machine rules -/

/-- R131, R105, R151: the values a completion writes depend only on the command's operands: not on key bytes past KEY_LEN, earlier results, flags, or anything else. (That a keyed command with KEY_LEN = 0 or above 256 completes at all, in a state that starts BUSY, is the model's choice, log entry 17.) -/
def Obligations.ResultsArePureFunctionsOfTheOperands : Prop :=
  ∀ (op : LongOp) (s s' t t' : State),
    s.phase = .busy op → s'.phase = .busy op → algField s = algField s' →
    (op ≠ .hmac → digitsField s = digitsField s') →
    (op ≠ .truncate → s.keyLen = s'.keyLen ∧ s.cntHi = s'.cntHi ∧ s.cntLo = s'.cntLo
      ∧ ∀ i : Fin 256, i.val < s.keyLen.toNat → s.key[i] = s'.key[i]) →
    (op = .truncate → ∀ alg, algOperand s = some alg →
      ∀ i : Fin 64, i.val < hlen alg → s.dig[i] = s'.dig[i]) →
    engineStep s = .next t → engineStep s' = .next t' →
    SameResult t t' ∧ (op ≠ .truncate → t'.dig = t.dig)

/-- R132: the results change only by a completion, an accepted CLEAR or long command that fails, or reset; the digest so too, or by a host write of DIGEST while IDLE. (That a BUSY state with no event left completes its command is the model's choice, log entry 1.) -/
def Obligations.ResultsPersist : Prop :=
  ∀ s t : State, step s = .next t →
    (SameResult s t
        ∨ (EngineTurn s ∧ s.phase ≠ .idle) ∨ ResetTurn s ∨ AcceptTurn .clear s
        ∨ (t.errFlag = true ∧
          (AcceptTurn .generate s ∨ AcceptTurn .hmac s ∨ AcceptTurn .truncate s)))
      ∧ (t.dig = s.dig
        ∨ (EngineTurn s ∧ (s.phase = .busy .generate ∨ s.phase = .busy .hmac))
        ∨ ResetTurn s ∨ AcceptTurn .clear s
        ∨ (t.errFlag = true ∧ (AcceptTurn .generate s ∨ AcceptTurn .hmac s))
        ∨ (s.phase = .idle ∧ ∃ j v, WriteTurn (.digest j) v s))

/-- R293, R105: the block changes no operand register by itself: only a host's write of that register while IDLE, an accepted CLEAR (which keeps CTRL), or reset does. -/
def Obligations.OperandsChangeOnlyByTheHost : Prop :=
  ∀ s t : State, step s = .next t →
    (t.ctrl = s.ctrl ∨ ResetTurn s ∨ (s.phase = .idle ∧ ∃ v, WriteTurn .ctrl v s))
      ∧ (t.keyLen = s.keyLen ∨ ResetTurn s ∨ AcceptTurn .clear s
        ∨ (s.phase = .idle ∧ ∃ v, WriteTurn .keyLen v s))
      ∧ (t.cntHi = s.cntHi ∨ ResetTurn s ∨ AcceptTurn .clear s
        ∨ (s.phase = .idle ∧ ∃ v, WriteTurn .cntHi v s))
      ∧ (t.cntLo = s.cntLo ∨ ResetTurn s ∨ AcceptTurn .clear s
        ∨ (s.phase = .idle ∧ ∃ v, WriteTurn .cntLo v s))
      ∧ (t.key = s.key ∨ ResetTurn s ∨ AcceptTurn .clear s
        ∨ (s.phase = .idle ∧ ∃ j v, WriteTurn (.keyWord j) v s))

/-- R124, R123: HMAC and then TRUNCATE with the same CTRL leave what GENERATE leaves. -/
def Obligations.HmacThenTruncateIsGenerate : Prop :=
  ∀ s : State, KeyedReady s →
    ∃ a b c d e f,
      exec .hmac s = .next a ∧ engineStep a = .next b ∧ exec .truncate b = .next c
        ∧ engineStep c = .next d ∧ exec .generate s = .next e ∧ engineStep e = .next f
        ∧ d = f

/-- R11, R121, R292, R234: when the turn is the engine's, a step is the engine's step on the state less that event (that the turn is the engine's when no event is left is the model's choice, log entry 1); and a completion never fails: from a state with the operands an acceptance leaves, it ends the command successfully. -/
def Obligations.CompletionNeverFails : Prop :=
  (∀ s : State, EngineTurn s → step s = engineStep { s with pending := s.pending.tail })
    ∧ ∀ s : State, EngineInv s → s.phase ≠ .idle → EngineTurn s →
      ∃ t, step s = .next t ∧ engineStep { s with pending := s.pending.tail } = .next t
        ∧ t.phase = .idle ∧ t.doneFlag = true ∧ t.errFlag = false ∧ t.errCode = .noError

/-- R74, R121: from such a state a step stops exactly where the next event is a transaction outside the window (log entry 5) or a BusError; every other step answers a next state (where no event is left, the engine's turn, which changes nothing while IDLE: the model's choice, log entry 1). -/
def Obligations.StepStopsOnlyAtIllFormedTransactions : Prop :=
  ∀ s : State, EngineInv s →
    ((∀ e rest, s.pending = e :: rest → e.wellFormed = true) → ∃ t, step s = .next t)
      ∧ (∀ e rest, s.pending = e :: rest → e.wellFormed = false →
        step s = .fault .busError ∨ step s = .refused .outsideWindow)

/-- R292: a run of well-formed events from such a state ends: one step for each event and one for the engine leave no event, PHASE = IDLE, and one response for each transaction (that the engine has its turn when no event is left is the model's choice, log entry 1). -/
def Obligations.RunEndsIdle : Prop :=
  ∀ s : State, EngineInv s → (∀ e ∈ s.pending, e.wellFormed = true) →
    ∃ t : State, Host.Core.run Sys2Proof.core (s.pending.length + 1) s = .next t ∧ RunEnded t
      ∧ t.responses.length = s.responses.length
        + (s.pending.filter fun e => decide (e ≠ .engine ∧ e ≠ .reset)).length

/-- R48, R42, R43, R44: the reserved bits of CTRL and INFO and bit 31 of CODE and DBC stay 0. -/
def Obligations.ReservedBitsStayZero : Prop :=
  ∀ s t : State, ReservedInv s → step s = .next t → ReservedInv t

/-- R121, R151, R156: while BUSY the operands pass the acceptance checks and the record is empty. -/
def Obligations.EngineOperandsStayChecked : Prop :=
  ∀ s t : State, EngineInv s → step s = .next t → EngineInv t

/-- R33, R35, R231: ERRCODE is NONE exactly while ERR is 0, and HASH_FAILURE is never raised. -/
def Obligations.ErrorRecordStaysConsistent : Prop :=
  ∀ s t : State, RecordInv s → step s = .next t → RecordInv t

/-- R42, R44, R45: the results stay empty or the complete description of one truncation. -/
def Obligations.ResultsStayOneTruncation : Prop :=
  ∀ s t : State, ResultInv s → step s = .next t → ResultInv t

/-! ### Reset -/

/-- R49: the values of all the block's state after reset, which the reset event sets. That State.reset's lists of events and responses are empty, and that the reset event keeps these lists, is the model's choice (log entries 1 and 2); that the invariants hold there is the model's own addition. -/
def Obligations.ResetValues : Prop :=
  State.reset.ctrl = 0 ∧ regRead .status State.reset = 0 ∧ State.reset.keyLen = 0
    ∧ State.reset.cntHi = 0 ∧ State.reset.cntLo = 0
    ∧ State.reset.code = 0 ∧ State.reset.dbc = 0 ∧ State.reset.info = 0
    ∧ (∀ i : Fin 16, State.reset.asc[i] = 0) ∧ (∀ i : Fin 64, State.reset.dig[i] = 0)
    ∧ (∀ i : Fin 256, State.reset.key[i] = 0)
    ∧ State.reset.phase = .idle ∧ irq State.reset = false
    ∧ regRead .id State.reset = 0x4F545031 ∧ regRead .caps State.reset = 0x0000F407
    ∧ State.reset.errCode = .noError ∧ BlockInv State.reset
    ∧ ∀ s : State, SameHost s (resetBlock s)
      ∧ { resetBlock s with pending := [], responses := [] } = State.reset

/-- R260: the reset event, in every state, gives the block its reset values and abandons a command in progress: no completion follows it. A command in progress ends only by its completion or by reset. That reset keeps the host's lists is the model's choice (log entries 1 and 2), and so is that an engine's turn while IDLE, such as the one after reset, answers the same state (log entry 1). -/
def Obligations.ResetAbandonsTheCommand : Prop :=
  (∀ s : State, ResetTurn s →
      step s = .next { State.reset with pending := s.pending.tail, responses := s.responses }
        ∧ ∀ t, step s = .next t → engineStep t = .next t ∧ irq t = false)
    ∧ ∀ s t : State, step s = .next t → s.phase ≠ .idle → t.phase = .idle →
      EngineTurn s ∨ ResetTurn s

/-! ### The hash functions -/

/-- R184, R195, R205: the check digests the spec computes from its rules. -/
def Obligations.HashesOfCheckMessages : Prop :=
  sha1 [0x61, 0x62, 0x63] = bytesBE 0xa9993e364706816aba3e25717850c26c9cd0d89d 20
    ∧ sha1 [] = bytesBE 0xda39a3ee5e6b4b0d3255bfef95601890afd80709 20
    ∧ sha256 [0x61, 0x62, 0x63]
      = bytesBE 0xba7816bf8f01cfea414140de5dae2223b00361a396177a9cb410ff61f20015ad 32
    ∧ sha256 []
      = bytesBE 0xe3b0c44298fc1c149afbf4c8996fb92427ae41e4649b934ca495991b7852b855 32
    ∧ sha512 [0x61, 0x62, 0x63]
      = bytesBE 0xddaf35a193617abacc417349ae20413112e6fa4e89a97ea20a9eeee64b55d39a2192992a274fc1a836ba3c23a3feebbd454d4423643ce80e2a9ac94fa54ca49f 64
    ∧ sha512 []
      = bytesBE 0xcf83e1357eefb8bdf1542850d66d8007d620e4050b5715dc83f4a921d36ce9ce47d0d13c5d85f2b0ff8318d2877eec2f63b931bd47417a81a538327af927da3e 64

/-- R182, R193, R203: each message schedule begins with the block's 16 words and follows its recurrence. -/
def Obligations.SchedulesFollowTheirRecurrences : Prop :=
  (∀ m : List Word, m.length = 16 →
      (sha1Schedule m).length = 80 ∧ (sha1Schedule m).take 16 = m
        ∧ ∀ t, 16 ≤ t → t < 80 →
          (sha1Schedule m).getD t 0
            = ((sha1Schedule m).getD (t - 3) 0 ^^^ (sha1Schedule m).getD (t - 8) 0
              ^^^ (sha1Schedule m).getD (t - 14) 0
              ^^^ (sha1Schedule m).getD (t - 16) 0).rotateLeft 1)
    ∧ (∀ m : List Word, m.length = 16 →
      (sha2Schedule sha256Kind m).length = 64 ∧ (sha2Schedule sha256Kind m).take 16 = m
        ∧ ∀ t, 16 ≤ t → t < 64 →
          (sha2Schedule sha256Kind m).getD t 0
            = sha256Kind.smallSigma1 ((sha2Schedule sha256Kind m).getD (t - 2) 0)
              + (sha2Schedule sha256Kind m).getD (t - 7) 0
              + sha256Kind.smallSigma0 ((sha2Schedule sha256Kind m).getD (t - 15) 0)
              + (sha2Schedule sha256Kind m).getD (t - 16) 0)
    ∧ ∀ m : List DWord, m.length = 16 →
      (sha2Schedule sha512Kind m).length = 80 ∧ (sha2Schedule sha512Kind m).take 16 = m
        ∧ ∀ t, 16 ≤ t → t < 80 →
          (sha2Schedule sha512Kind m).getD t 0
            = sha512Kind.smallSigma1 ((sha2Schedule sha512Kind m).getD (t - 2) 0)
              + (sha2Schedule sha512Kind m).getD (t - 7) 0
              + sha512Kind.smallSigma0 ((sha2Schedule sha512Kind m).getD (t - 15) 0)
              + (sha2Schedule sha512Kind m).getD (t - 16) 0

/-- R173: the blocks of the padded message, in order, each of 16 words, word t big-endian from the bytes at t*w/8. -/
def Obligations.MessageWordsAreBigEndian : Prop :=
  ∀ (w block lb : Nat) (x : List Byte), 0 < block →
    (messageBlocks w block lb x).length = (padMessage block lb x).length / block
      ∧ ∀ b ws, (messageBlocks w block lb x)[b]? = some ws →
        ws.length = 16
          ∧ ∀ t, t < 16 →
            ws.getD t 0
              = BitVec.ofNat w (natBE
                ((((padMessage block lb x).drop (block * b)).take block).drop (t * (w / 8))
                  |>.take (w / 8)))

/-! ### HMAC -/

/-- R150, R38: the message is the counter's eight bytes, CNT_HI first, each big-endian. -/
def Obligations.CounterMessageIsBigEndian : Prop :=
  ∀ s : State,
    counterMessage s =
      [s.cntHi.extractLsb' 24 8, s.cntHi.extractLsb' 16 8, s.cntHi.extractLsb' 8 8,
        s.cntHi.extractLsb' 0 8, s.cntLo.extractLsb' 24 8, s.cntLo.extractLsb' 16 8,
        s.cntLo.extractLsb' 8 8, s.cntLo.extractLsb' 0 8]

/-- R172: the padded message, its length a multiple of the block size, with the least number of zero bytes. -/
def Obligations.PaddingIsLeast : Prop :=
  ∀ (alg : Alg) (x : List Byte),
    ∃ z, padMessage (blockBytes alg) (lengthBytes alg) x
        = x ++ [0x80] ++ List.replicate z 0 ++ bytesBE (8 * x.length) (lengthBytes alg)
      ∧ (padMessage (blockBytes alg) (lengthBytes alg) x).length % blockBytes alg = 0
      ∧ ∀ z', (x.length + 1 + z' + lengthBytes alg) % blockBytes alg = 0 → z ≤ z'

/-- R103, R25, R156, R2: CTRL.ALG selects the algorithm and its hash function, and the output lengths. -/
def Obligations.HashAndHmacLengths : Prop :=
  (∀ s : State, algOperand s = algOfCode ((regRead .ctrl s).extractLsb' 0 2))
    ∧ algOfCode 0 = some .sha1 ∧ algOfCode 1 = some .sha256 ∧ algOfCode 2 = some .sha512
    ∧ algOfCode 3 = none
    ∧ algCode .sha1 = 0 ∧ algCode .sha256 = 1 ∧ algCode .sha512 = 2
    ∧ hlen .sha1 = 20 ∧ hlen .sha256 = 32 ∧ hlen .sha512 = 64
    ∧ (∀ x, hashOf .sha1 x = sha1 x ∧ hashOf .sha256 x = sha256 x ∧ hashOf .sha512 x = sha512 x)
    ∧ ∀ (alg : Alg) (x k m : List Byte),
      (hashOf alg x).length = hlen alg ∧ (hmac alg k m).length = hlen alg

/-- R152-R155: only a key longer than the block is hashed, the padded key has exactly the block's length, and the HMAC is the nested hash over it with the two pad constants. -/
def Obligations.HmacConstruction : Prop :=
  ∀ (alg : Alg) (k m : List Byte),
    (blockBytes alg < k.length →
        prehashKey alg k = hashOf alg k ∧ (prehashKey alg k).length = hlen alg)
      ∧ (k.length ≤ blockBytes alg → prehashKey alg k = k)
      ∧ padKey alg k
        = prehashKey alg k ++ List.replicate (blockBytes alg - (prehashKey alg k).length) 0
      ∧ (padKey alg k).length = blockBytes alg
      ∧ hmac alg k m
        = hashOf alg ((padKey alg k).zipWith (· ^^^ ·) (List.replicate (blockBytes alg) 0x5C)
          ++ hashOf alg ((padKey alg k).zipWith (· ^^^ ·) (List.replicate (blockBytes alg) 0x36)
            ++ m))
      ∧ blockBytes .sha1 = 64 ∧ blockBytes .sha256 = 64 ∧ blockBytes .sha512 = 128

/-- R158: an empty key is refused with MISSING_KEY; bytes added to a short key change K0 exactly if one is not zero, so zero bytes leave the HMAC; a long key and its hash give the same HMAC. -/
def Obligations.HmacKeyEquivalences : Prop :=
  (∀ (s : State) (i : Instr), s.phase = .idle → s.keyLen = 0 → i = .generate ∨ i = .hmac →
      ∃ t, exec i s = .next t ∧ t.errFlag = true ∧ t.errCode = .missingKey)
    ∧ (∀ (alg : Alg) (k e : List Byte), (k ++ e).length ≤ blockBytes alg →
      (padKey alg (k ++ e) = padKey alg k ↔ ∀ b ∈ e, b = 0))
    ∧ (∀ (alg : Alg) (k m : List Byte) (n : Nat), k.length + n ≤ blockBytes alg →
      hmac alg (k ++ List.replicate n 0) m = hmac alg k m)
    ∧ (∀ (alg : Alg) (k m : List Byte), blockBytes alg < k.length →
      hmac alg (hashOf alg k) m = hmac alg k m)

/-- R151, R157, R172, R173, R291: the key operand, the sizes of the hashed messages and the compression calls they take: the blocks that each hash splits its padded message into. -/
def Obligations.HashedMessageSizes : Prop :=
  (∀ (s : State) (alg : Alg), s.keyLen.toNat ≤ 256 →
      (keyBytes s).length = s.keyLen.toNat
        ∧ (∀ i : Fin 256, i.val < s.keyLen.toNat → (keyBytes s)[i.val]? = some s.key[i])
        ∧ (innerInput alg (keyBytes s) (counterMessage s)).length = blockBytes alg + 8
        ∧ (outerInput alg (keyBytes s) (counterMessage s)).length = blockBytes alg + hlen alg
        ∧ compressionCalls alg (blockBytes alg + 8) = 2
        ∧ compressionCalls alg (blockBytes alg + hlen alg) = 2
        ∧ compressionCalls alg s.keyLen.toNat
          = (s.keyLen.toNat + 1 + lengthBytes alg + (blockBytes alg - 1)) / blockBytes alg)
    ∧ (∀ x : List Byte,
      (messageBlocks 32 64 8 x).length = compressionCalls .sha1 x.length
        ∧ (messageBlocks 32 64 8 x).length = compressionCalls .sha256 x.length
        ∧ (messageBlocks 64 128 16 x).length = compressionCalls .sha512 x.length)
    ∧ lengthBytes .sha1 = 8 ∧ lengthBytes .sha256 = 8 ∧ lengthBytes .sha512 = 16

/-! ### Truncation -/

/-- R104, R26: the effective digit count is 6 for a field of 0 and otherwise the field, in 1..15; it raises no error; above 10 it only adds leading zeros. -/
def Obligations.EffectiveDigits : Prop :=
  (∀ s : State,
      digitsField s = (regRead .ctrl s).extractLsb' 4 4
        ∧ (digitsField s = 0 → effDigits s = 6)
        ∧ (digitsField s ≠ 0 → effDigits s = (digitsField s).toNat)
        ∧ 1 ≤ effDigits s ∧ effDigits s ≤ 15)
    ∧ (∀ (s : State) (c : Word), c &&& 0xFFFFFF0F = s.ctrl &&& 0xFFFFFF0F →
      keyedCommandError { s with ctrl := c } = keyedCommandError s
        ∧ truncateError { s with ctrl := c } = truncateError s)
    ∧ (∀ (dbc : Word) (d : Nat), dbc.getLsbD 31 = false → 10 ≤ d →
      renderCode (truncCode dbc d) d
        = List.replicate (d - 10) 0x30 ++ renderCode (truncCode dbc 10) 10)

/-- R210, R211: the offset is at most 15, so the window lies inside the digest and below the offset byte, for every algorithm. -/
def Obligations.WindowIsInsideTheDigest : Prop :=
  ∀ (alg : Alg) (h : List Byte),
    truncOffset alg h = (h.getD (hlen alg - 1) 0).toNat % 16 ∧ truncOffset alg h ≤ 15
      ∧ truncOffset alg h + 3 ≤ 18 ∧ truncOffset alg h + 3 < hlen alg - 1

/-- R212: D is the window with the top bit of its first byte cleared, big-endian, below 2^31. -/
def Obligations.DbcIsTheClearedWindow : Prop :=
  ∀ (alg : Alg) (h : List Byte),
    (truncDbc alg h).toNat
        = (h.getD (truncOffset alg h) 0).toNat % 128 * 2 ^ 24
          + (h.getD (truncOffset alg h + 1) 0).toNat * 2 ^ 16
          + (h.getD (truncOffset alg h + 2) 0).toNat * 2 ^ 8
          + (h.getD (truncOffset alg h + 3) 0).toNat
      ∧ (truncDbc alg h).toNat < 2 ^ 31

/-- R214: the code is D mod 10^d exactly, below 10^d for d up to 9, and D itself from d = 10. -/
def Obligations.CodeIsTheExactRemainder : Prop :=
  ∀ (dbc : Word) (d : Nat), dbc.getLsbD 31 = false → 1 ≤ d → d ≤ 15 →
    (truncCode dbc d).toNat = dbc.toNat % 10 ^ d
      ∧ (d ≤ 9 → (truncCode dbc d).toNat < 10 ^ d)
      ∧ (10 ≤ d → truncCode dbc d = dbc)

/-- R215, R217: the text has exactly d digits, reads as the code, and is the shortest decimal representation left-padded with '0', never cut. -/
def Obligations.TextHasExactlyDDigits : Prop :=
  ∀ (dbc : Word) (d : Nat), dbc.getLsbD 31 = false → 1 ≤ d → d ≤ 15 →
    (renderCode (truncCode dbc d) d).length = d
      ∧ (∀ b ∈ renderCode (truncCode dbc d) d, IsDigit b)
      ∧ decimalValue (renderCode (truncCode dbc d) d) = (truncCode dbc d).toNat
      ∧ (digitsOf (truncCode dbc d)).length ≤ d
      ∧ renderCode (truncCode dbc d) d
        = List.replicate (d - (digitsOf (truncCode dbc d)).length) 0x30
          ++ digitsOf (truncCode dbc d)
      ∧ ((digitsOf (truncCode dbc d)).head? = some 0x30 → truncCode dbc d = 0
        ∧ digitsOf (truncCode dbc d) = [0x30])

/-- R218: the four results depend only on the low four bits of the last byte, on the four window bytes (of the first, bits 6:0) and on d. -/
def Obligations.TruncationDependsOnlyOnItsWindow : Prop :=
  ∀ (alg : Alg) (h h' : List Byte) (d : Nat),
    (h.getD (hlen alg - 1) 0).toNat % 16 = (h'.getD (hlen alg - 1) 0).toNat % 16 →
    (∀ b : Fin 4, (h.getD (truncOffset alg h + b.val) 0).toNat % (if b.val = 0 then 128 else 256)
      = (h'.getD (truncOffset alg h + b.val) 0).toNat % (if b.val = 0 then 128 else 256)) →
    truncateDigest alg h d = truncateDigest alg h' d
      ∧ truncOffset alg h + 3 < hlen alg - 1
end

