-- ==== Sys2Proof/Laws/Bytes.lean ====
section
/-! SUPPORT. What the byte strings, the buffers and the hash functions' lengths come to: one lemma per function. -/

namespace Sys2Proof.Machine

/-! ### Buffers -/

@[simp] theorem bufferOf_getElem {n : Nat} (f : Fin n → Byte) (i : Nat) (h : i < n) :
    (bufferOf f)[i] = f ⟨i, h⟩ := by
  simp [bufferOf]

theorem bufferOf_toList {n : Nat} (f : Fin n → Byte) :
    (bufferOf f).toList = (List.finRange n).map f := by
  simp [bufferOf, Vector.toList]

theorem byteAt_eq_getElem (bs : List Byte) (i : Nat) (h : i < bs.length) : byteAt bs i = bs[i] := by
  simp [byteAt, h]

theorem byteAt_vector {n : Nat} (buf : Vector Byte n) (i : Nat) (h : i < n) :
    byteAt buf.toList i = buf[i] := by
  simp [byteAt, h]

/-- A byte of a buffer after one of its words was written (R40). -/
theorem setBufferWord_getElem {n : Nat} (buf : Vector Byte n) (j : Nat) (v : Word) (i : Nat)
    (h : i < n) :
    (setBufferWord buf j v)[i] = if i / 4 = j then wordByte v (i % 4) else buf[i] := by
  simp [setBufferWord]

/-! ### Byte strings -/

@[simp] theorem bytesBE_length (v n : Nat) : (bytesBE v n).length = n := by simp [bytesBE]

theorem be32_toNat (a b c d : Byte) :
    (be32 a b c d).toNat = a.toNat * 2 ^ 24 + b.toNat * 2 ^ 16 + c.toNat * 2 ^ 8 + d.toNat := by
  have ha := a.isLt
  have hb := b.isLt
  have hc := c.isLt
  have hd := d.isLt
  have e1 := Nat.shiftLeft_add_eq_or_of_lt hb a.toNat
  have e2 := Nat.shiftLeft_add_eq_or_of_lt hc (a.toNat <<< 8 ||| b.toNat)
  have e3 := Nat.shiftLeft_add_eq_or_of_lt hd ((a.toNat <<< 8 ||| b.toNat) <<< 8 ||| c.toNat)
  simp only [be32, BitVec.toNat_append]
  rw [← e3, ← e2, ← e1]
  simp only [Nat.shiftLeft_eq]
  ring

/-! ### Hash functions -/

theorem serialise_length {w : Nat} (hs : List (BitVec w)) :
    (serialise hs).length = hs.length * (w / 8) := by
  simp [serialise]

theorem padMessage_length (block lb : Nat) (x : List Byte) :
    (padMessage block lb x).length = x.length + 1 + padZeros block lb x.length + lb := by
  simp [padMessage]
  omega

@[simp] theorem xorPad_length (pad : Byte) (k0 : List Byte) :
    (xorPad pad k0).length = k0.length := by
  simp [xorPad]

/-- The last hash value serialises to HLEN bytes (R171). -/
theorem hashOf_length (alg : Alg) (x : List Byte) : (hashOf alg x).length = hlen alg := by
  cases alg <;> simp [hashOf, sha1, sha256, sha512, serialise_length, sha2Words, hlen]

theorem hlen_le_blockBytes (alg : Alg) : hlen alg ≤ blockBytes alg := by cases alg <;> decide

theorem hlen_ge (alg : Alg) : 20 ≤ hlen alg := by cases alg <;> decide

theorem hlen_le (alg : Alg) : hlen alg ≤ 64 := by cases alg <;> decide

end Sys2Proof.Machine
end

