-- ==== Sys2Proof/Laws/State.lean ====
section
/-! SUPPORT. What each named update of the state does to each field, once, so that no later proof unfolds a record update. -/

namespace Sys2Proof.Machine

/-! ### respond -/

@[simp] theorem respond_ctrl (r : Response) (s : State) : (respond r s).ctrl = s.ctrl := rfl
@[simp] theorem respond_keyLen (r : Response) (s : State) : (respond r s).keyLen = s.keyLen := rfl
@[simp] theorem respond_cntHi (r : Response) (s : State) : (respond r s).cntHi = s.cntHi := rfl
@[simp] theorem respond_cntLo (r : Response) (s : State) : (respond r s).cntLo = s.cntLo := rfl
@[simp] theorem respond_key (r : Response) (s : State) : (respond r s).key = s.key := rfl
@[simp] theorem respond_dig (r : Response) (s : State) : (respond r s).dig = s.dig := rfl
@[simp] theorem respond_doneFlag (r : Response) (s : State) :
    (respond r s).doneFlag = s.doneFlag := rfl
@[simp] theorem respond_errFlag (r : Response) (s : State) :
    (respond r s).errFlag = s.errFlag := rfl
@[simp] theorem respond_ovrFlag (r : Response) (s : State) :
    (respond r s).ovrFlag = s.ovrFlag := rfl
@[simp] theorem respond_errCode (r : Response) (s : State) :
    (respond r s).errCode = s.errCode := rfl
@[simp] theorem respond_code (r : Response) (s : State) : (respond r s).code = s.code := rfl
@[simp] theorem respond_dbc (r : Response) (s : State) : (respond r s).dbc = s.dbc := rfl
@[simp] theorem respond_info (r : Response) (s : State) : (respond r s).info = s.info := rfl
@[simp] theorem respond_asc (r : Response) (s : State) : (respond r s).asc = s.asc := rfl
@[simp] theorem respond_phase (r : Response) (s : State) : (respond r s).phase = s.phase := rfl
@[simp] theorem respond_pending (r : Response) (s : State) :
    (respond r s).pending = s.pending := rfl
@[simp] theorem respond_responses (r : Response) (s : State) :
    (respond r s).responses = s.responses ++ [r] := rfl

/-! ### clearResult -/

@[simp] theorem clearResult_ctrl (s : State) : (clearResult s).ctrl = s.ctrl := rfl
@[simp] theorem clearResult_keyLen (s : State) : (clearResult s).keyLen = s.keyLen := rfl
@[simp] theorem clearResult_cntHi (s : State) : (clearResult s).cntHi = s.cntHi := rfl
@[simp] theorem clearResult_cntLo (s : State) : (clearResult s).cntLo = s.cntLo := rfl
@[simp] theorem clearResult_key (s : State) : (clearResult s).key = s.key := rfl
@[simp] theorem clearResult_dig (s : State) : (clearResult s).dig = s.dig := rfl
@[simp] theorem clearResult_doneFlag (s : State) : (clearResult s).doneFlag = s.doneFlag := rfl
@[simp] theorem clearResult_errFlag (s : State) : (clearResult s).errFlag = s.errFlag := rfl
@[simp] theorem clearResult_ovrFlag (s : State) : (clearResult s).ovrFlag = s.ovrFlag := rfl
@[simp] theorem clearResult_errCode (s : State) : (clearResult s).errCode = s.errCode := rfl
@[simp] theorem clearResult_code (s : State) : (clearResult s).code = 0 := rfl
@[simp] theorem clearResult_dbc (s : State) : (clearResult s).dbc = 0 := rfl
@[simp] theorem clearResult_info (s : State) : (clearResult s).info = 0 := rfl
@[simp] theorem clearResult_asc (s : State) : (clearResult s).asc = Vector.replicate 16 0 := rfl
@[simp] theorem clearResult_phase (s : State) : (clearResult s).phase = s.phase := rfl
@[simp] theorem clearResult_pending (s : State) : (clearResult s).pending = s.pending := rfl
@[simp] theorem clearResult_responses (s : State) : (clearResult s).responses = s.responses := rfl

/-! ### clearDigest -/

@[simp] theorem clearDigest_ctrl (s : State) : (clearDigest s).ctrl = s.ctrl := rfl
@[simp] theorem clearDigest_keyLen (s : State) : (clearDigest s).keyLen = s.keyLen := rfl
@[simp] theorem clearDigest_cntHi (s : State) : (clearDigest s).cntHi = s.cntHi := rfl
@[simp] theorem clearDigest_cntLo (s : State) : (clearDigest s).cntLo = s.cntLo := rfl
@[simp] theorem clearDigest_key (s : State) : (clearDigest s).key = s.key := rfl
@[simp] theorem clearDigest_dig (s : State) : (clearDigest s).dig = Vector.replicate 64 0 := rfl
@[simp] theorem clearDigest_doneFlag (s : State) : (clearDigest s).doneFlag = s.doneFlag := rfl
@[simp] theorem clearDigest_errFlag (s : State) : (clearDigest s).errFlag = s.errFlag := rfl
@[simp] theorem clearDigest_ovrFlag (s : State) : (clearDigest s).ovrFlag = s.ovrFlag := rfl
@[simp] theorem clearDigest_errCode (s : State) : (clearDigest s).errCode = s.errCode := rfl
@[simp] theorem clearDigest_code (s : State) : (clearDigest s).code = s.code := rfl
@[simp] theorem clearDigest_dbc (s : State) : (clearDigest s).dbc = s.dbc := rfl
@[simp] theorem clearDigest_info (s : State) : (clearDigest s).info = s.info := rfl
@[simp] theorem clearDigest_asc (s : State) : (clearDigest s).asc = s.asc := rfl
@[simp] theorem clearDigest_phase (s : State) : (clearDigest s).phase = s.phase := rfl
@[simp] theorem clearDigest_pending (s : State) : (clearDigest s).pending = s.pending := rfl
@[simp] theorem clearDigest_responses (s : State) : (clearDigest s).responses = s.responses := rfl

/-! ### clearOperands -/

@[simp] theorem clearOperands_ctrl (s : State) : (clearOperands s).ctrl = s.ctrl := rfl
@[simp] theorem clearOperands_keyLen (s : State) : (clearOperands s).keyLen = 0 := rfl
@[simp] theorem clearOperands_cntHi (s : State) : (clearOperands s).cntHi = 0 := rfl
@[simp] theorem clearOperands_cntLo (s : State) : (clearOperands s).cntLo = 0 := rfl
@[simp] theorem clearOperands_key (s : State) :
    (clearOperands s).key = Vector.replicate 256 0 := rfl
@[simp] theorem clearOperands_dig (s : State) : (clearOperands s).dig = s.dig := rfl
@[simp] theorem clearOperands_doneFlag (s : State) : (clearOperands s).doneFlag = s.doneFlag := rfl
@[simp] theorem clearOperands_errFlag (s : State) : (clearOperands s).errFlag = s.errFlag := rfl
@[simp] theorem clearOperands_ovrFlag (s : State) : (clearOperands s).ovrFlag = s.ovrFlag := rfl
@[simp] theorem clearOperands_errCode (s : State) : (clearOperands s).errCode = s.errCode := rfl
@[simp] theorem clearOperands_code (s : State) : (clearOperands s).code = s.code := rfl
@[simp] theorem clearOperands_dbc (s : State) : (clearOperands s).dbc = s.dbc := rfl
@[simp] theorem clearOperands_info (s : State) : (clearOperands s).info = s.info := rfl
@[simp] theorem clearOperands_asc (s : State) : (clearOperands s).asc = s.asc := rfl
@[simp] theorem clearOperands_phase (s : State) : (clearOperands s).phase = s.phase := rfl
@[simp] theorem clearOperands_pending (s : State) : (clearOperands s).pending = s.pending := rfl
@[simp] theorem clearOperands_responses (s : State) :
    (clearOperands s).responses = s.responses := rfl

/-! ### writeDigest -/

@[simp] theorem writeDigest_ctrl (alg : Alg) (h : List Byte) (s : State) :
    (writeDigest alg h s).ctrl = s.ctrl := rfl
@[simp] theorem writeDigest_keyLen (alg : Alg) (h : List Byte) (s : State) :
    (writeDigest alg h s).keyLen = s.keyLen := rfl
@[simp] theorem writeDigest_cntHi (alg : Alg) (h : List Byte) (s : State) :
    (writeDigest alg h s).cntHi = s.cntHi := rfl
@[simp] theorem writeDigest_cntLo (alg : Alg) (h : List Byte) (s : State) :
    (writeDigest alg h s).cntLo = s.cntLo := rfl
@[simp] theorem writeDigest_key (alg : Alg) (h : List Byte) (s : State) :
    (writeDigest alg h s).key = s.key := rfl
@[simp] theorem writeDigest_dig (alg : Alg) (h : List Byte) (s : State) :
    (writeDigest alg h s).dig = zeroFilled 64 (hlen alg) h := rfl
@[simp] theorem writeDigest_doneFlag (alg : Alg) (h : List Byte) (s : State) :
    (writeDigest alg h s).doneFlag = s.doneFlag := rfl
@[simp] theorem writeDigest_errFlag (alg : Alg) (h : List Byte) (s : State) :
    (writeDigest alg h s).errFlag = s.errFlag := rfl
@[simp] theorem writeDigest_ovrFlag (alg : Alg) (h : List Byte) (s : State) :
    (writeDigest alg h s).ovrFlag = s.ovrFlag := rfl
@[simp] theorem writeDigest_errCode (alg : Alg) (h : List Byte) (s : State) :
    (writeDigest alg h s).errCode = s.errCode := rfl
@[simp] theorem writeDigest_code (alg : Alg) (h : List Byte) (s : State) :
    (writeDigest alg h s).code = s.code := rfl
@[simp] theorem writeDigest_dbc (alg : Alg) (h : List Byte) (s : State) :
    (writeDigest alg h s).dbc = s.dbc := rfl
@[simp] theorem writeDigest_info (alg : Alg) (h : List Byte) (s : State) :
    (writeDigest alg h s).info = s.info := rfl
@[simp] theorem writeDigest_asc (alg : Alg) (h : List Byte) (s : State) :
    (writeDigest alg h s).asc = s.asc := rfl
@[simp] theorem writeDigest_phase (alg : Alg) (h : List Byte) (s : State) :
    (writeDigest alg h s).phase = s.phase := rfl
@[simp] theorem writeDigest_pending (alg : Alg) (h : List Byte) (s : State) :
    (writeDigest alg h s).pending = s.pending := rfl
@[simp] theorem writeDigest_responses (alg : Alg) (h : List Byte) (s : State) :
    (writeDigest alg h s).responses = s.responses := rfl

/-! ### writeResult -/

@[simp] theorem writeResult_ctrl (alg : Alg) (d : Nat) (r : Truncation) (s : State) :
    (writeResult alg d r s).ctrl = s.ctrl := rfl
@[simp] theorem writeResult_keyLen (alg : Alg) (d : Nat) (r : Truncation) (s : State) :
    (writeResult alg d r s).keyLen = s.keyLen := rfl
@[simp] theorem writeResult_cntHi (alg : Alg) (d : Nat) (r : Truncation) (s : State) :
    (writeResult alg d r s).cntHi = s.cntHi := rfl
@[simp] theorem writeResult_cntLo (alg : Alg) (d : Nat) (r : Truncation) (s : State) :
    (writeResult alg d r s).cntLo = s.cntLo := rfl
@[simp] theorem writeResult_key (alg : Alg) (d : Nat) (r : Truncation) (s : State) :
    (writeResult alg d r s).key = s.key := rfl
@[simp] theorem writeResult_dig (alg : Alg) (d : Nat) (r : Truncation) (s : State) :
    (writeResult alg d r s).dig = s.dig := rfl
@[simp] theorem writeResult_doneFlag (alg : Alg) (d : Nat) (r : Truncation) (s : State) :
    (writeResult alg d r s).doneFlag = s.doneFlag := rfl
@[simp] theorem writeResult_errFlag (alg : Alg) (d : Nat) (r : Truncation) (s : State) :
    (writeResult alg d r s).errFlag = s.errFlag := rfl
@[simp] theorem writeResult_ovrFlag (alg : Alg) (d : Nat) (r : Truncation) (s : State) :
    (writeResult alg d r s).ovrFlag = s.ovrFlag := rfl
@[simp] theorem writeResult_errCode (alg : Alg) (d : Nat) (r : Truncation) (s : State) :
    (writeResult alg d r s).errCode = s.errCode := rfl
@[simp] theorem writeResult_code (alg : Alg) (d : Nat) (r : Truncation) (s : State) :
    (writeResult alg d r s).code = r.code := rfl
@[simp] theorem writeResult_dbc (alg : Alg) (d : Nat) (r : Truncation) (s : State) :
    (writeResult alg d r s).dbc = r.dbc := rfl
@[simp] theorem writeResult_info (alg : Alg) (d : Nat) (r : Truncation) (s : State) :
    (writeResult alg d r s).info = infoWord alg d r.offset := rfl
@[simp] theorem writeResult_asc (alg : Alg) (d : Nat) (r : Truncation) (s : State) :
    (writeResult alg d r s).asc = zeroFilled 16 d r.text := rfl
@[simp] theorem writeResult_phase (alg : Alg) (d : Nat) (r : Truncation) (s : State) :
    (writeResult alg d r s).phase = s.phase := rfl
@[simp] theorem writeResult_pending (alg : Alg) (d : Nat) (r : Truncation) (s : State) :
    (writeResult alg d r s).pending = s.pending := rfl
@[simp] theorem writeResult_responses (alg : Alg) (d : Nat) (r : Truncation) (s : State) :
    (writeResult alg d r s).responses = s.responses := rfl

/-! ### startRecord -/

@[simp] theorem startRecord_ctrl (s : State) : (startRecord s).ctrl = s.ctrl := rfl
@[simp] theorem startRecord_keyLen (s : State) : (startRecord s).keyLen = s.keyLen := rfl
@[simp] theorem startRecord_cntHi (s : State) : (startRecord s).cntHi = s.cntHi := rfl
@[simp] theorem startRecord_cntLo (s : State) : (startRecord s).cntLo = s.cntLo := rfl
@[simp] theorem startRecord_key (s : State) : (startRecord s).key = s.key := rfl
@[simp] theorem startRecord_dig (s : State) : (startRecord s).dig = s.dig := rfl
@[simp] theorem startRecord_doneFlag (s : State) : (startRecord s).doneFlag = false := rfl
@[simp] theorem startRecord_errFlag (s : State) : (startRecord s).errFlag = false := rfl
@[simp] theorem startRecord_ovrFlag (s : State) : (startRecord s).ovrFlag = s.ovrFlag := rfl
@[simp] theorem startRecord_errCode (s : State) : (startRecord s).errCode = .noError := rfl
@[simp] theorem startRecord_code (s : State) : (startRecord s).code = s.code := rfl
@[simp] theorem startRecord_dbc (s : State) : (startRecord s).dbc = s.dbc := rfl
@[simp] theorem startRecord_info (s : State) : (startRecord s).info = s.info := rfl
@[simp] theorem startRecord_asc (s : State) : (startRecord s).asc = s.asc := rfl
@[simp] theorem startRecord_phase (s : State) : (startRecord s).phase = s.phase := rfl
@[simp] theorem startRecord_pending (s : State) : (startRecord s).pending = s.pending := rfl
@[simp] theorem startRecord_responses (s : State) : (startRecord s).responses = s.responses := rfl

/-! ### dropWrite -/

@[simp] theorem dropWrite_ctrl (s : State) : (dropWrite s).ctrl = s.ctrl := rfl
@[simp] theorem dropWrite_keyLen (s : State) : (dropWrite s).keyLen = s.keyLen := rfl
@[simp] theorem dropWrite_cntHi (s : State) : (dropWrite s).cntHi = s.cntHi := rfl
@[simp] theorem dropWrite_cntLo (s : State) : (dropWrite s).cntLo = s.cntLo := rfl
@[simp] theorem dropWrite_key (s : State) : (dropWrite s).key = s.key := rfl
@[simp] theorem dropWrite_dig (s : State) : (dropWrite s).dig = s.dig := rfl
@[simp] theorem dropWrite_doneFlag (s : State) : (dropWrite s).doneFlag = s.doneFlag := rfl
@[simp] theorem dropWrite_errFlag (s : State) : (dropWrite s).errFlag = s.errFlag := rfl
@[simp] theorem dropWrite_ovrFlag (s : State) : (dropWrite s).ovrFlag = true := rfl
@[simp] theorem dropWrite_errCode (s : State) : (dropWrite s).errCode = s.errCode := rfl
@[simp] theorem dropWrite_code (s : State) : (dropWrite s).code = s.code := rfl
@[simp] theorem dropWrite_dbc (s : State) : (dropWrite s).dbc = s.dbc := rfl
@[simp] theorem dropWrite_info (s : State) : (dropWrite s).info = s.info := rfl
@[simp] theorem dropWrite_asc (s : State) : (dropWrite s).asc = s.asc := rfl
@[simp] theorem dropWrite_phase (s : State) : (dropWrite s).phase = s.phase := rfl
@[simp] theorem dropWrite_pending (s : State) : (dropWrite s).pending = s.pending := rfl
@[simp] theorem dropWrite_responses (s : State) : (dropWrite s).responses = s.responses := rfl

/-! ### setDone -/

@[simp] theorem setDone_ctrl (s : State) : (setDone s).ctrl = s.ctrl := rfl
@[simp] theorem setDone_keyLen (s : State) : (setDone s).keyLen = s.keyLen := rfl
@[simp] theorem setDone_cntHi (s : State) : (setDone s).cntHi = s.cntHi := rfl
@[simp] theorem setDone_cntLo (s : State) : (setDone s).cntLo = s.cntLo := rfl
@[simp] theorem setDone_key (s : State) : (setDone s).key = s.key := rfl
@[simp] theorem setDone_dig (s : State) : (setDone s).dig = s.dig := rfl
@[simp] theorem setDone_doneFlag (s : State) : (setDone s).doneFlag = true := rfl
@[simp] theorem setDone_errFlag (s : State) : (setDone s).errFlag = s.errFlag := rfl
@[simp] theorem setDone_ovrFlag (s : State) : (setDone s).ovrFlag = s.ovrFlag := rfl
@[simp] theorem setDone_errCode (s : State) : (setDone s).errCode = s.errCode := rfl
@[simp] theorem setDone_code (s : State) : (setDone s).code = s.code := rfl
@[simp] theorem setDone_dbc (s : State) : (setDone s).dbc = s.dbc := rfl
@[simp] theorem setDone_info (s : State) : (setDone s).info = s.info := rfl
@[simp] theorem setDone_asc (s : State) : (setDone s).asc = s.asc := rfl
@[simp] theorem setDone_phase (s : State) : (setDone s).phase = s.phase := rfl
@[simp] theorem setDone_pending (s : State) : (setDone s).pending = s.pending := rfl
@[simp] theorem setDone_responses (s : State) : (setDone s).responses = s.responses := rfl

/-! ### startLong -/

@[simp] theorem startLong_ctrl (op : LongOp) (s : State) : (startLong op s).ctrl = s.ctrl := rfl
@[simp] theorem startLong_keyLen (op : LongOp) (s : State) :
    (startLong op s).keyLen = s.keyLen := rfl
@[simp] theorem startLong_cntHi (op : LongOp) (s : State) : (startLong op s).cntHi = s.cntHi := rfl
@[simp] theorem startLong_cntLo (op : LongOp) (s : State) : (startLong op s).cntLo = s.cntLo := rfl
@[simp] theorem startLong_key (op : LongOp) (s : State) : (startLong op s).key = s.key := rfl
@[simp] theorem startLong_dig (op : LongOp) (s : State) : (startLong op s).dig = s.dig := rfl
@[simp] theorem startLong_doneFlag (op : LongOp) (s : State) :
    (startLong op s).doneFlag = s.doneFlag := rfl
@[simp] theorem startLong_errFlag (op : LongOp) (s : State) :
    (startLong op s).errFlag = s.errFlag := rfl
@[simp] theorem startLong_ovrFlag (op : LongOp) (s : State) :
    (startLong op s).ovrFlag = s.ovrFlag := rfl
@[simp] theorem startLong_errCode (op : LongOp) (s : State) :
    (startLong op s).errCode = s.errCode := rfl
@[simp] theorem startLong_code (op : LongOp) (s : State) : (startLong op s).code = s.code := rfl
@[simp] theorem startLong_dbc (op : LongOp) (s : State) : (startLong op s).dbc = s.dbc := rfl
@[simp] theorem startLong_info (op : LongOp) (s : State) : (startLong op s).info = s.info := rfl
@[simp] theorem startLong_asc (op : LongOp) (s : State) : (startLong op s).asc = s.asc := rfl
@[simp] theorem startLong_phase (op : LongOp) (s : State) : (startLong op s).phase = .busy op := rfl
@[simp] theorem startLong_pending (op : LongOp) (s : State) :
    (startLong op s).pending = s.pending := rfl
@[simp] theorem startLong_responses (op : LongOp) (s : State) :
    (startLong op s).responses = s.responses := rfl

/-! ### finishLong -/

@[simp] theorem finishLong_ctrl (s : State) : (finishLong s).ctrl = s.ctrl := rfl
@[simp] theorem finishLong_keyLen (s : State) : (finishLong s).keyLen = s.keyLen := rfl
@[simp] theorem finishLong_cntHi (s : State) : (finishLong s).cntHi = s.cntHi := rfl
@[simp] theorem finishLong_cntLo (s : State) : (finishLong s).cntLo = s.cntLo := rfl
@[simp] theorem finishLong_key (s : State) : (finishLong s).key = s.key := rfl
@[simp] theorem finishLong_dig (s : State) : (finishLong s).dig = s.dig := rfl
@[simp] theorem finishLong_doneFlag (s : State) : (finishLong s).doneFlag = true := rfl
@[simp] theorem finishLong_errFlag (s : State) : (finishLong s).errFlag = s.errFlag := rfl
@[simp] theorem finishLong_ovrFlag (s : State) : (finishLong s).ovrFlag = s.ovrFlag := rfl
@[simp] theorem finishLong_errCode (s : State) : (finishLong s).errCode = s.errCode := rfl
@[simp] theorem finishLong_code (s : State) : (finishLong s).code = s.code := rfl
@[simp] theorem finishLong_dbc (s : State) : (finishLong s).dbc = s.dbc := rfl
@[simp] theorem finishLong_info (s : State) : (finishLong s).info = s.info := rfl
@[simp] theorem finishLong_asc (s : State) : (finishLong s).asc = s.asc := rfl
@[simp] theorem finishLong_phase (s : State) : (finishLong s).phase = .idle := rfl
@[simp] theorem finishLong_pending (s : State) : (finishLong s).pending = s.pending := rfl
@[simp] theorem finishLong_responses (s : State) : (finishLong s).responses = s.responses := rfl

/-! ### statusWrite -/

@[simp] theorem statusWrite_ctrl (v : Word) (s : State) : (statusWrite v s).ctrl = s.ctrl := rfl
@[simp] theorem statusWrite_keyLen (v : Word) (s : State) :
    (statusWrite v s).keyLen = s.keyLen := rfl
@[simp] theorem statusWrite_cntHi (v : Word) (s : State) : (statusWrite v s).cntHi = s.cntHi := rfl
@[simp] theorem statusWrite_cntLo (v : Word) (s : State) : (statusWrite v s).cntLo = s.cntLo := rfl
@[simp] theorem statusWrite_key (v : Word) (s : State) : (statusWrite v s).key = s.key := rfl
@[simp] theorem statusWrite_dig (v : Word) (s : State) : (statusWrite v s).dig = s.dig := rfl
@[simp] theorem statusWrite_doneFlag (v : Word) (s : State) :
    (statusWrite v s).doneFlag = if v.getLsbD 1 then false else s.doneFlag := rfl
@[simp] theorem statusWrite_errFlag (v : Word) (s : State) :
    (statusWrite v s).errFlag = if v.getLsbD 2 then false else s.errFlag := rfl
@[simp] theorem statusWrite_ovrFlag (v : Word) (s : State) :
    (statusWrite v s).ovrFlag = if v.getLsbD 3 then false else s.ovrFlag := rfl
@[simp] theorem statusWrite_errCode (v : Word) (s : State) :
    (statusWrite v s).errCode = if v.getLsbD 2 then .noError else s.errCode := rfl
@[simp] theorem statusWrite_code (v : Word) (s : State) : (statusWrite v s).code = s.code := rfl
@[simp] theorem statusWrite_dbc (v : Word) (s : State) : (statusWrite v s).dbc = s.dbc := rfl
@[simp] theorem statusWrite_info (v : Word) (s : State) : (statusWrite v s).info = s.info := rfl
@[simp] theorem statusWrite_asc (v : Word) (s : State) : (statusWrite v s).asc = s.asc := rfl
@[simp] theorem statusWrite_phase (v : Word) (s : State) : (statusWrite v s).phase = s.phase := rfl
@[simp] theorem statusWrite_pending (v : Word) (s : State) :
    (statusWrite v s).pending = s.pending := rfl
@[simp] theorem statusWrite_responses (v : Word) (s : State) :
    (statusWrite v s).responses = s.responses := rfl

/-! ### resetBlock -/

@[simp] theorem resetBlock_ctrl (s : State) : (resetBlock s).ctrl = State.reset.ctrl := rfl
@[simp] theorem resetBlock_keyLen (s : State) : (resetBlock s).keyLen = State.reset.keyLen := rfl
@[simp] theorem resetBlock_cntHi (s : State) : (resetBlock s).cntHi = State.reset.cntHi := rfl
@[simp] theorem resetBlock_cntLo (s : State) : (resetBlock s).cntLo = State.reset.cntLo := rfl
@[simp] theorem resetBlock_key (s : State) : (resetBlock s).key = State.reset.key := rfl
@[simp] theorem resetBlock_dig (s : State) : (resetBlock s).dig = State.reset.dig := rfl
@[simp] theorem resetBlock_doneFlag (s : State) :
    (resetBlock s).doneFlag = State.reset.doneFlag := rfl
@[simp] theorem resetBlock_errFlag (s : State) : (resetBlock s).errFlag = State.reset.errFlag := rfl
@[simp] theorem resetBlock_ovrFlag (s : State) : (resetBlock s).ovrFlag = State.reset.ovrFlag := rfl
@[simp] theorem resetBlock_errCode (s : State) : (resetBlock s).errCode = State.reset.errCode := rfl
@[simp] theorem resetBlock_code (s : State) : (resetBlock s).code = State.reset.code := rfl
@[simp] theorem resetBlock_dbc (s : State) : (resetBlock s).dbc = State.reset.dbc := rfl
@[simp] theorem resetBlock_info (s : State) : (resetBlock s).info = State.reset.info := rfl
@[simp] theorem resetBlock_asc (s : State) : (resetBlock s).asc = State.reset.asc := rfl
@[simp] theorem resetBlock_phase (s : State) : (resetBlock s).phase = State.reset.phase := rfl
@[simp] theorem resetBlock_pending (s : State) : (resetBlock s).pending = s.pending := rfl
@[simp] theorem resetBlock_responses (s : State) : (resetBlock s).responses = s.responses := rfl

/-! ### raiseError -/

@[simp] theorem raiseError_ctrl (cmd : Option Instr) (e : ErrCode) (s : State) :
    (raiseError cmd e s).ctrl = s.ctrl := by
  unfold raiseError clearOutputs
  cases cmd with
  | none => rfl
  | some i => cases i <;> rfl

@[simp] theorem raiseError_keyLen (cmd : Option Instr) (e : ErrCode) (s : State) :
    (raiseError cmd e s).keyLen = s.keyLen := by
  unfold raiseError clearOutputs
  cases cmd with
  | none => rfl
  | some i => cases i <;> rfl

@[simp] theorem raiseError_cntHi (cmd : Option Instr) (e : ErrCode) (s : State) :
    (raiseError cmd e s).cntHi = s.cntHi := by
  unfold raiseError clearOutputs
  cases cmd with
  | none => rfl
  | some i => cases i <;> rfl

@[simp] theorem raiseError_cntLo (cmd : Option Instr) (e : ErrCode) (s : State) :
    (raiseError cmd e s).cntLo = s.cntLo := by
  unfold raiseError clearOutputs
  cases cmd with
  | none => rfl
  | some i => cases i <;> rfl

@[simp] theorem raiseError_key (cmd : Option Instr) (e : ErrCode) (s : State) :
    (raiseError cmd e s).key = s.key := by
  unfold raiseError clearOutputs
  cases cmd with
  | none => rfl
  | some i => cases i <;> rfl

@[simp] theorem raiseError_ovrFlag (cmd : Option Instr) (e : ErrCode) (s : State) :
    (raiseError cmd e s).ovrFlag = s.ovrFlag := by
  unfold raiseError clearOutputs
  cases cmd with
  | none => rfl
  | some i => cases i <;> rfl

@[simp] theorem raiseError_phase (cmd : Option Instr) (e : ErrCode) (s : State) :
    (raiseError cmd e s).phase = s.phase := by
  unfold raiseError clearOutputs
  cases cmd with
  | none => rfl
  | some i => cases i <;> rfl

@[simp] theorem raiseError_pending (cmd : Option Instr) (e : ErrCode) (s : State) :
    (raiseError cmd e s).pending = s.pending := by
  unfold raiseError clearOutputs
  cases cmd with
  | none => rfl
  | some i => cases i <;> rfl

@[simp] theorem raiseError_responses (cmd : Option Instr) (e : ErrCode) (s : State) :
    (raiseError cmd e s).responses = s.responses := by
  unfold raiseError clearOutputs
  cases cmd with
  | none => rfl
  | some i => cases i <;> rfl

@[simp] theorem raiseError_doneFlag (cmd : Option Instr) (e : ErrCode) (s : State) :
    (raiseError cmd e s).doneFlag = true := rfl

@[simp] theorem raiseError_errFlag (cmd : Option Instr) (e : ErrCode) (s : State) :
    (raiseError cmd e s).errFlag = true := rfl

@[simp] theorem raiseError_errCode (cmd : Option Instr) (e : ErrCode) (s : State) :
    (raiseError cmd e s).errCode = e := rfl

/-! ### Derived flags and operands -/

@[simp] theorem busyFlag_respond (r : Response) (s : State) :
    busyFlag (respond r s) = busyFlag s := rfl
@[simp] theorem algField_respond (r : Response) (s : State) :
    algField (respond r s) = algField s := rfl
@[simp] theorem algOperand_respond (r : Response) (s : State) :
    algOperand (respond r s) = algOperand s := rfl
@[simp] theorem digitsField_respond (r : Response) (s : State) :
    digitsField (respond r s) = digitsField s := rfl
@[simp] theorem effDigits_respond (r : Response) (s : State) :
    effDigits (respond r s) = effDigits s := rfl
@[simp] theorem ieDone_respond (r : Response) (s : State) :
    ieDone (respond r s) = ieDone s := rfl
@[simp] theorem ieErr_respond (r : Response) (s : State) :
    ieErr (respond r s) = ieErr s := rfl
@[simp] theorem busyFlag_clearResult (s : State) :
    busyFlag (clearResult s) = busyFlag s := rfl
@[simp] theorem algField_clearResult (s : State) :
    algField (clearResult s) = algField s := rfl
@[simp] theorem algOperand_clearResult (s : State) :
    algOperand (clearResult s) = algOperand s := rfl
@[simp] theorem digitsField_clearResult (s : State) :
    digitsField (clearResult s) = digitsField s := rfl
@[simp] theorem effDigits_clearResult (s : State) :
    effDigits (clearResult s) = effDigits s := rfl
@[simp] theorem ieDone_clearResult (s : State) :
    ieDone (clearResult s) = ieDone s := rfl
@[simp] theorem ieErr_clearResult (s : State) :
    ieErr (clearResult s) = ieErr s := rfl
@[simp] theorem busyFlag_clearDigest (s : State) :
    busyFlag (clearDigest s) = busyFlag s := rfl
@[simp] theorem algField_clearDigest (s : State) :
    algField (clearDigest s) = algField s := rfl
@[simp] theorem algOperand_clearDigest (s : State) :
    algOperand (clearDigest s) = algOperand s := rfl
@[simp] theorem digitsField_clearDigest (s : State) :
    digitsField (clearDigest s) = digitsField s := rfl
@[simp] theorem effDigits_clearDigest (s : State) :
    effDigits (clearDigest s) = effDigits s := rfl
@[simp] theorem ieDone_clearDigest (s : State) :
    ieDone (clearDigest s) = ieDone s := rfl
@[simp] theorem ieErr_clearDigest (s : State) :
    ieErr (clearDigest s) = ieErr s := rfl
@[simp] theorem busyFlag_clearOperands (s : State) :
    busyFlag (clearOperands s) = busyFlag s := rfl
@[simp] theorem algField_clearOperands (s : State) :
    algField (clearOperands s) = algField s := rfl
@[simp] theorem algOperand_clearOperands (s : State) :
    algOperand (clearOperands s) = algOperand s := rfl
@[simp] theorem digitsField_clearOperands (s : State) :
    digitsField (clearOperands s) = digitsField s := rfl
@[simp] theorem effDigits_clearOperands (s : State) :
    effDigits (clearOperands s) = effDigits s := rfl
@[simp] theorem ieDone_clearOperands (s : State) :
    ieDone (clearOperands s) = ieDone s := rfl
@[simp] theorem ieErr_clearOperands (s : State) :
    ieErr (clearOperands s) = ieErr s := rfl
@[simp] theorem busyFlag_writeDigest (alg : Alg) (h : List Byte) (s : State) :
    busyFlag (writeDigest alg h s) = busyFlag s := rfl
@[simp] theorem algField_writeDigest (alg : Alg) (h : List Byte) (s : State) :
    algField (writeDigest alg h s) = algField s := rfl
@[simp] theorem algOperand_writeDigest (alg : Alg) (h : List Byte) (s : State) :
    algOperand (writeDigest alg h s) = algOperand s := rfl
@[simp] theorem digitsField_writeDigest (alg : Alg) (h : List Byte) (s : State) :
    digitsField (writeDigest alg h s) = digitsField s := rfl
@[simp] theorem effDigits_writeDigest (alg : Alg) (h : List Byte) (s : State) :
    effDigits (writeDigest alg h s) = effDigits s := rfl
@[simp] theorem ieDone_writeDigest (alg : Alg) (h : List Byte) (s : State) :
    ieDone (writeDigest alg h s) = ieDone s := rfl
@[simp] theorem ieErr_writeDigest (alg : Alg) (h : List Byte) (s : State) :
    ieErr (writeDigest alg h s) = ieErr s := rfl
@[simp] theorem busyFlag_writeResult (alg : Alg) (d : Nat) (r : Truncation) (s : State) :
    busyFlag (writeResult alg d r s) = busyFlag s := rfl
@[simp] theorem algField_writeResult (alg : Alg) (d : Nat) (r : Truncation) (s : State) :
    algField (writeResult alg d r s) = algField s := rfl
@[simp] theorem algOperand_writeResult (alg : Alg) (d : Nat) (r : Truncation) (s : State) :
    algOperand (writeResult alg d r s) = algOperand s := rfl
@[simp] theorem digitsField_writeResult (alg : Alg) (d : Nat) (r : Truncation) (s : State) :
    digitsField (writeResult alg d r s) = digitsField s := rfl
@[simp] theorem effDigits_writeResult (alg : Alg) (d : Nat) (r : Truncation) (s : State) :
    effDigits (writeResult alg d r s) = effDigits s := rfl
@[simp] theorem ieDone_writeResult (alg : Alg) (d : Nat) (r : Truncation) (s : State) :
    ieDone (writeResult alg d r s) = ieDone s := rfl
@[simp] theorem ieErr_writeResult (alg : Alg) (d : Nat) (r : Truncation) (s : State) :
    ieErr (writeResult alg d r s) = ieErr s := rfl
@[simp] theorem busyFlag_startRecord (s : State) :
    busyFlag (startRecord s) = busyFlag s := rfl
@[simp] theorem algField_startRecord (s : State) :
    algField (startRecord s) = algField s := rfl
@[simp] theorem algOperand_startRecord (s : State) :
    algOperand (startRecord s) = algOperand s := rfl
@[simp] theorem digitsField_startRecord (s : State) :
    digitsField (startRecord s) = digitsField s := rfl
@[simp] theorem effDigits_startRecord (s : State) :
    effDigits (startRecord s) = effDigits s := rfl
@[simp] theorem ieDone_startRecord (s : State) :
    ieDone (startRecord s) = ieDone s := rfl
@[simp] theorem ieErr_startRecord (s : State) :
    ieErr (startRecord s) = ieErr s := rfl
@[simp] theorem busyFlag_dropWrite (s : State) :
    busyFlag (dropWrite s) = busyFlag s := rfl
@[simp] theorem algField_dropWrite (s : State) :
    algField (dropWrite s) = algField s := rfl
@[simp] theorem algOperand_dropWrite (s : State) :
    algOperand (dropWrite s) = algOperand s := rfl
@[simp] theorem digitsField_dropWrite (s : State) :
    digitsField (dropWrite s) = digitsField s := rfl
@[simp] theorem effDigits_dropWrite (s : State) :
    effDigits (dropWrite s) = effDigits s := rfl
@[simp] theorem ieDone_dropWrite (s : State) :
    ieDone (dropWrite s) = ieDone s := rfl
@[simp] theorem ieErr_dropWrite (s : State) :
    ieErr (dropWrite s) = ieErr s := rfl
@[simp] theorem busyFlag_setDone (s : State) :
    busyFlag (setDone s) = busyFlag s := rfl
@[simp] theorem algField_setDone (s : State) :
    algField (setDone s) = algField s := rfl
@[simp] theorem algOperand_setDone (s : State) :
    algOperand (setDone s) = algOperand s := rfl
@[simp] theorem digitsField_setDone (s : State) :
    digitsField (setDone s) = digitsField s := rfl
@[simp] theorem effDigits_setDone (s : State) :
    effDigits (setDone s) = effDigits s := rfl
@[simp] theorem ieDone_setDone (s : State) :
    ieDone (setDone s) = ieDone s := rfl
@[simp] theorem ieErr_setDone (s : State) :
    ieErr (setDone s) = ieErr s := rfl
@[simp] theorem algField_startLong (op : LongOp) (s : State) :
    algField (startLong op s) = algField s := rfl
@[simp] theorem algOperand_startLong (op : LongOp) (s : State) :
    algOperand (startLong op s) = algOperand s := rfl
@[simp] theorem digitsField_startLong (op : LongOp) (s : State) :
    digitsField (startLong op s) = digitsField s := rfl
@[simp] theorem effDigits_startLong (op : LongOp) (s : State) :
    effDigits (startLong op s) = effDigits s := rfl
@[simp] theorem ieDone_startLong (op : LongOp) (s : State) :
    ieDone (startLong op s) = ieDone s := rfl
@[simp] theorem ieErr_startLong (op : LongOp) (s : State) :
    ieErr (startLong op s) = ieErr s := rfl
@[simp] theorem algField_finishLong (s : State) :
    algField (finishLong s) = algField s := rfl
@[simp] theorem algOperand_finishLong (s : State) :
    algOperand (finishLong s) = algOperand s := rfl
@[simp] theorem digitsField_finishLong (s : State) :
    digitsField (finishLong s) = digitsField s := rfl
@[simp] theorem effDigits_finishLong (s : State) :
    effDigits (finishLong s) = effDigits s := rfl
@[simp] theorem ieDone_finishLong (s : State) :
    ieDone (finishLong s) = ieDone s := rfl
@[simp] theorem ieErr_finishLong (s : State) :
    ieErr (finishLong s) = ieErr s := rfl
@[simp] theorem busyFlag_statusWrite (v : Word) (s : State) :
    busyFlag (statusWrite v s) = busyFlag s := rfl
@[simp] theorem algField_statusWrite (v : Word) (s : State) :
    algField (statusWrite v s) = algField s := rfl
@[simp] theorem algOperand_statusWrite (v : Word) (s : State) :
    algOperand (statusWrite v s) = algOperand s := rfl
@[simp] theorem digitsField_statusWrite (v : Word) (s : State) :
    digitsField (statusWrite v s) = digitsField s := rfl
@[simp] theorem effDigits_statusWrite (v : Word) (s : State) :
    effDigits (statusWrite v s) = effDigits s := rfl
@[simp] theorem ieDone_statusWrite (v : Word) (s : State) :
    ieDone (statusWrite v s) = ieDone s := rfl
@[simp] theorem ieErr_statusWrite (v : Word) (s : State) :
    ieErr (statusWrite v s) = ieErr s := rfl

end Sys2Proof.Machine
end

