-- ==== Sys2Proof/Laws/Exec.lean ====
section
/-! SUPPORT. What each shared operation can do, once: the provers cite these instead of unfolding the operations. -/

namespace Sys2Proof.Machine

/-! ### Busy or idle -/

theorem busyFlag_eq_false_iff (s : State) : busyFlag s = false ↔ s.phase = .idle := by
  unfold busyFlag
  cases s.phase <;> simp

theorem busyFlag_eq_true_iff (s : State) : busyFlag s = true ↔ s.phase ≠ .idle := by
  unfold busyFlag
  cases s.phase <;> simp

theorem whenIdle_idle {a s : State} (h : s.phase = .idle) : whenIdle a s = .next a := by
  simp [whenIdle, (busyFlag_eq_false_iff s).2 h]

theorem whenIdle_busy {a s : State} (h : s.phase ≠ .idle) : whenIdle a s = .next (dropWrite s) := by
  simp [whenIdle, (busyFlag_eq_true_iff s).2 h]

/-! ### Operands -/

/-- An algorithm is selected exactly when ALG is its code point (R103). -/
theorem algOfCode_eq_some_iff (c : BitVec 2) (a : Alg) : algOfCode c = some a ↔ c = algCode a := by
  revert c
  cases a <;> decide

/-- No algorithm is selected exactly when ALG = 3 (R103). -/
theorem algOfCode_eq_none_iff (c : BitVec 2) : algOfCode c = none ↔ c = 3 := by
  revert c
  decide

theorem algOperand_eq_none_iff (s : State) : algOperand s = none ↔ algField s = 3 :=
  algOfCode_eq_none_iff _

/-- The effective digit count is in 1..15 (R104). -/
theorem effDigits_bounds (s : State) : 1 ≤ effDigits s ∧ effDigits s < 16 := by
  unfold effDigits
  split
  · decide
  · rename_i h
    have := (digitsField s).isLt
    have h0 : (digitsField s).toNat ≠ 0 := fun h' => h (BitVec.eq_of_toNat_eq (by simpa using h'))
    omega

/-! ### Acceptance -/

/-- The state an accepted command leaves (R120): what `exec` answers while IDLE. -/
def acceptedState (i : Instr) (s : State) : State :=
  match i with
  | .nop => s
  | .generate => acceptLong .generate .generate (keyedCommandError s) s
  | .hmac => acceptLong .hmac .hmac (keyedCommandError s) s
  | .truncate => acceptLong .truncate .truncate (truncateError s) s
  | .clear => setDone (clearResult (clearDigest (clearOperands (startRecord s))))

/-- The state any CMD word leaves while IDLE (R120, R127). -/
def acceptedWordState (w : Word) (s : State) : State :=
  match decodeCommand w with
  | .ok i => acceptedState i s
  | .error _ => raiseError none .illegalCmd (startRecord s)

theorem exec_idle (i : Instr) {s : State} (h : s.phase = .idle) :
    exec i s = .next (acceptedState i s) := by
  cases i <;> exact whenIdle_idle h

theorem exec_busy (i : Instr) {s : State} (h : s.phase ≠ .idle) :
    exec i s = .next (dropWrite s) := by
  cases i <;> exact whenIdle_busy h

theorem execIllegal_idle {s : State} (h : s.phase = .idle) :
    execIllegal s = .next (raiseError none .illegalCmd (startRecord s)) :=
  whenIdle_idle h

theorem execIllegal_busy {s : State} (h : s.phase ≠ .idle) :
    execIllegal s = .next (dropWrite s) :=
  whenIdle_busy h

theorem commandWrite_idle (w : Word) {s : State} (h : s.phase = .idle) :
    commandWrite w s = .next (acceptedWordState w s) := by
  unfold commandWrite acceptedWordState
  cases decodeCommand w with
  | ok i => exact exec_idle i h
  | error _ => exact execIllegal_idle h

theorem commandWrite_busy (w : Word) {s : State} (h : s.phase ≠ .idle) :
    commandWrite w s = .next (dropWrite s) := by
  unfold commandWrite
  cases decodeCommand w with
  | ok i => exact exec_busy i h
  | error _ => exact execIllegal_busy h

/-- An accepted long command either is refused with its error or begins its BUSY phase (R120). -/
theorem acceptLong_cases (cmd : Instr) (op : LongOp) (error : Option ErrCode) (s : State) :
    (∃ e, error = some e ∧ acceptLong cmd op error s = raiseError (some cmd) e (startRecord s))
      ∨ (error = none ∧ acceptLong cmd op error s = startLong op (startRecord s)) := by
  cases error with
  | some e => exact .inl ⟨e, rfl, rfl⟩
  | none => exact .inr ⟨rfl, rfl⟩

/-- The checks of GENERATE and HMAC pass exactly with 1 to 256 key bytes and a supported algorithm (R120). -/
theorem keyedCommandError_eq_none_iff (s : State) :
    keyedCommandError s = none
      ↔ 1 ≤ s.keyLen.toNat ∧ s.keyLen.toNat ≤ 256 ∧ algField s ≠ 3 := by
  have ha := algOperand_eq_none_iff s
  unfold keyedCommandError
  split_ifs with h1 h2 h3
  · simp [h1]
  · simp only [false_iff]
    omega
  · simp [ha.1 h3]
  · simp only [true_iff]
    exact ⟨by omega, by omega, fun h => h3 (ha.2 h)⟩

/-- The check of TRUNCATE passes exactly with a supported algorithm (R120). -/
theorem truncateError_eq_none_iff (s : State) : truncateError s = none ↔ algField s ≠ 3 := by
  have ha := algOperand_eq_none_iff s
  unfold truncateError
  split_ifs with h
  · simp [ha.1 h]
  · simp only [true_iff]
    exact fun h' => h (ha.2 h')

/-! ### The engine -/

/-- What the engine's turn can answer (R121). -/
theorem engineStep_cases {s t : State} (h : engineStep s = .next t) :
    (s.phase = .idle ∧ t = s)
      ∨ ∃ op alg, s.phase = .busy op ∧ algOperand s = some alg
        ∧ t = finishLong (writeOutputs op alg s) := by
  unfold engineStep at h
  split at h
  · rename_i hp
    exact .inl ⟨hp, by cases h; rfl⟩
  · rename_i op hp
    split at h
    · rename_i alg ha
      exact .inr ⟨op, alg, hp, ha, by cases h; rfl⟩
    · cases h

theorem engineStep_idle {s : State} (h : s.phase = .idle) : engineStep s = .next s := by
  simp [engineStep, h]

theorem engineStep_busy {s : State} {op : LongOp} {alg : Alg} (hp : s.phase = .busy op)
    (ha : algOperand s = some alg) : engineStep s = .next (finishLong (writeOutputs op alg s)) := by
  simp [engineStep, hp, ha]

/-! ### The bus and the step -/

/-- What one step can answer, by the event it takes (R11). -/
theorem step_cases {s t : State} (h : step s = .next t) :
    (s.pending = [] ∧ engineStep s = .next t)
      ∨ (∃ rest, s.pending = .engine :: rest ∧ engineStep { s with pending := rest } = .next t)
      ∨ (∃ rest, s.pending = .reset :: rest ∧ t = resetBlock { s with pending := rest })
      ∨ (∃ off size r rest, s.pending = .read off size :: rest ∧ decodeAccess off size = .reg r
        ∧ t = respond (.data (regRead r { s with pending := rest })) { s with pending := rest })
      ∨ (∃ off size r v rest, s.pending = .write off size v :: rest ∧ decodeAccess off size = .reg r
        ∧ r ≠ .cmd ∧ t = respond .ok (plainWrite r v { s with pending := rest }))
      ∨ (∃ off size w rest, s.pending = .write off size w :: rest
        ∧ decodeAccess off size = .reg .cmd
        ∧ ((s.phase = .idle ∧ t = respond .ok (acceptedWordState w { s with pending := rest }))
          ∨ (s.phase ≠ .idle ∧ t = respond .ok (dropWrite { s with pending := rest })))) := by
  unfold step stepNext at h
  split at h
  · rename_i hp
    exact .inl ⟨hp, h⟩
  · rename_i e rest hp
    cases e with
    | engine => exact .inr (.inl ⟨rest, hp, h⟩)
    | reset => exact .inr (.inr (.inl ⟨rest, hp, by cases h; rfl⟩))
    | read off size =>
      simp only [runEvent, busRead] at h
      split at h <;> cases h
      rename_i r hr
      exact .inr (.inr (.inr (.inl ⟨off, size, r, rest, hp, hr, rfl⟩)))
    | write off size v =>
      simp only [runEvent, busWrite] at h
      split at h <;> try cases h
      rename_i r hr
      by_cases hc : r = .cmd
      · subst hc
        refine .inr (.inr (.inr (.inr (.inr ⟨off, size, v, rest, hp, hr, ?_⟩))))
        by_cases hi : s.phase = .idle
        · simp only [regWrite, if_true] at h
          rw [commandWrite_idle v (s := { s with pending := rest }) hi] at h
          cases h
          exact .inl ⟨hi, rfl⟩
        · simp only [regWrite, if_true] at h
          rw [commandWrite_busy v (s := { s with pending := rest }) hi] at h
          cases h
          exact .inr ⟨hi, rfl⟩
      · simp only [regWrite, if_neg hc] at h
        cases h
        exact .inr (.inr (.inr (.inr (.inl ⟨off, size, r, v, rest, hp, hr, hc, rfl⟩))))

/-- What a write of a register other than CMD can do (R76, R77, R78). -/
theorem plainWrite_cases (r : Reg) (v : Word) (s : State) :
    (r = .status ∧ plainWrite r v s = statusWrite v s)
      ∨ (isOperandReg r = true ∧ s.phase ≠ .idle ∧ plainWrite r v s = dropWrite s)
      ∨ (isOperandReg r = true ∧ s.phase = .idle ∧ plainWrite r v s = operandWrite r v s)
      ∨ (isOperandReg r = false ∧ r ≠ .status ∧ plainWrite r v s = s) := by
  unfold plainWrite
  split_ifs with h1 h2 h3
  · exact .inl ⟨h1, rfl⟩
  · exact .inr (.inl ⟨h2, (busyFlag_eq_true_iff s).1 h3, rfl⟩)
  · exact .inr (.inr (.inl ⟨h2, by simpa using mt (busyFlag_eq_true_iff s).2 h3, rfl⟩))
  · exact .inr (.inr (.inr ⟨by simpa using h2, h1, rfl⟩))

/-- A step that takes a read of a register (R75). -/
theorem step_read {s : State} {off : Int} {size : Nat} {r : Reg} {rest : List Event}
    (hp : s.pending = .read off size :: rest) (hd : decodeAccess off size = .reg r) :
    step s = .next (respond (.data (regRead r { s with pending := rest }))
      { s with pending := rest }) := by
  simp [step, stepNext, hp, runEvent, busRead, hd]

/-- A step that takes a write of a register (R76). -/
theorem step_write {s : State} {off : Int} {size : Nat} {v : Word} {r : Reg} {rest : List Event}
    (hp : s.pending = .write off size v :: rest) (hd : decodeAccess off size = .reg r) :
    step s = answer .ok (regWrite r v { s with pending := rest }) := by
  simp [step, stepNext, hp, runEvent, busWrite, hd]

end Sys2Proof.Machine
end

