-- ==== Sys2Proof/Laws/Outputs.lean ====
section
/-! SUPPORT. What the operand writes and the output helpers do and leave alone, once. -/

namespace Sys2Proof.Machine

/-! ### The output helpers -/

/-- A byte of a zero-filled buffer (R128, R129). -/
theorem zeroFilled_getElem (n len : Nat) (h : List Byte) (i : Nat) (hi : i < n) :
    (zeroFilled n len h)[i] = if i < len then byteAt h i else 0 := by
  simp [zeroFilled]

/-- The fields of the INFO word (R44, R129). -/
theorem infoWord_fields (alg : Alg) (d o : Nat) (hd : d < 16) (ho : o < 16) :
    (infoWord alg d o).getLsbD 31 = true ∧ (infoWord alg d o).extractLsb' 16 2 = algCode alg
      ∧ ((infoWord alg d o).extractLsb' 8 4).toNat = d
      ∧ ((infoWord alg d o).extractLsb' 0 4).toNat = o
      ∧ infoWord alg d o &&& 0x7FFCF0F0 = 0 := by
  have h : ∀ d o : Fin 16, (infoWord alg d o).getLsbD 31 = true
      ∧ (infoWord alg d o).extractLsb' 16 2 = algCode alg
      ∧ ((infoWord alg d o).extractLsb' 8 4).toNat = d
      ∧ ((infoWord alg d o).extractLsb' 0 4).toNat = o
      ∧ infoWord alg d o &&& 0x7FFCF0F0 = 0 := by
    cases alg <;> decide +kernel
  exact h ⟨d, hd⟩ ⟨o, ho⟩

/-- A byte of TRUNCATE's digest operand (R125). -/
theorem byteAt_digestBytes (alg : Alg) (s : State) (i : Nat) (h : i < hlen alg) :
    byteAt (digestBytes alg s) i = s.dig.toList.getD i 0 := by
  simp [byteAt, digestBytes, h]

/-- What a completion's output step leaves alone (R121). -/
theorem writeOutputs_frame (op : LongOp) (alg : Alg) (s : State) :
    (writeOutputs op alg s).phase = s.phase ∧ (writeOutputs op alg s).ctrl = s.ctrl
      ∧ (writeOutputs op alg s).keyLen = s.keyLen ∧ (writeOutputs op alg s).cntHi = s.cntHi
      ∧ (writeOutputs op alg s).cntLo = s.cntLo ∧ (writeOutputs op alg s).key = s.key
      ∧ (writeOutputs op alg s).doneFlag = s.doneFlag ∧ (writeOutputs op alg s).errFlag = s.errFlag
      ∧ (writeOutputs op alg s).errCode = s.errCode ∧ (writeOutputs op alg s).ovrFlag = s.ovrFlag
      ∧ (writeOutputs op alg s).pending = s.pending
      ∧ (writeOutputs op alg s).responses = s.responses := by
  cases op <;> simp [writeOutputs]

/-! ### Writes -/

/-- What a write of an operand register leaves alone (R76, R79). -/
theorem operandWrite_frame (r : Reg) (v : Word) (s : State) :
    (operandWrite r v s).phase = s.phase ∧ (operandWrite r v s).doneFlag = s.doneFlag
      ∧ (operandWrite r v s).errFlag = s.errFlag ∧ (operandWrite r v s).errCode = s.errCode
      ∧ (operandWrite r v s).ovrFlag = s.ovrFlag ∧ (operandWrite r v s).code = s.code
      ∧ (operandWrite r v s).dbc = s.dbc ∧ (operandWrite r v s).info = s.info
      ∧ (operandWrite r v s).asc = s.asc ∧ (operandWrite r v s).pending = s.pending
      ∧ (operandWrite r v s).responses = s.responses := by
  cases r <;> exact ⟨rfl, rfl, rfl, rfl, rfl, rfl, rfl, rfl, rfl, rfl, rfl⟩

/-- No write but of CMD changes PHASE (R77, R78). -/
theorem plainWrite_phase (r : Reg) (v : Word) (s : State) :
    (plainWrite r v s).phase = s.phase := by
  rcases plainWrite_cases r v s with ⟨-, h⟩ | ⟨-, -, h⟩ | ⟨-, -, h⟩ | ⟨-, -, h⟩ <;> rw [h]
  · rfl
  · rfl
  · exact (operandWrite_frame r v s).1

/-! ### Acceptance -/

/-- What an accepted command leaves, by whether it fails (R120). -/
theorem acceptedState_cases (i : Instr) (s : State) :
    (i = .nop ∧ acceptedState i s = s)
      ∨ (i = .clear
        ∧ acceptedState i s = setDone (clearResult (clearDigest (clearOperands (startRecord s)))))
      ∨ (∃ e, ((i = .generate ∨ i = .hmac) ∧ keyedCommandError s = some e
          ∨ i = .truncate ∧ truncateError s = some e)
        ∧ acceptedState i s = raiseError (some i) e (startRecord s))
      ∨ ∃ op, (i = .generate ∧ op = .generate ∧ keyedCommandError s = none
          ∨ i = .hmac ∧ op = .hmac ∧ keyedCommandError s = none
          ∨ i = .truncate ∧ op = .truncate ∧ truncateError s = none)
        ∧ acceptedState i s = startLong op (startRecord s) := by
  cases i with
  | nop => exact .inl ⟨rfl, rfl⟩
  | clear => exact .inr (.inl ⟨rfl, rfl⟩)
  | generate =>
    obtain ⟨e, he, h⟩ | ⟨he, h⟩ :=
      acceptLong_cases .generate .generate (keyedCommandError s) s
    · exact .inr (.inr (.inl ⟨e, by simp [he], h⟩))
    · exact .inr (.inr (.inr ⟨.generate, by simp [he], h⟩))
  | hmac =>
    obtain ⟨e, he, h⟩ | ⟨he, h⟩ := acceptLong_cases .hmac .hmac (keyedCommandError s) s
    · exact .inr (.inr (.inl ⟨e, by simp [he], h⟩))
    · exact .inr (.inr (.inr ⟨.hmac, by simp [he], h⟩))
  | truncate =>
    obtain ⟨e, he, h⟩ | ⟨he, h⟩ := acceptLong_cases .truncate .truncate (truncateError s) s
    · exact .inr (.inr (.inl ⟨e, by simp [he], h⟩))
    · exact .inr (.inr (.inr ⟨.truncate, by simp [he], h⟩))

end Sys2Proof.Machine
end

