-- ==== Sys2Proof/Laws/PerInstr.lean ====
section
/-! SUPPORT. Per-instruction statements. -/

namespace Sys2Proof.Laws.RoundTrip

/-- The command is well formed, and its word of the opcode map decodes to it (spec/30_encoding.md R102, R106). -/
def Statement (i : Instr) : Prop :=
  i.wellFormed = true ∧ decodeTableWord 32 (encodeCommand i).toNat = some i

theorem nop : Statement .nop := by unfold Statement; decide

theorem generate : Statement .generate := by unfold Statement; decide

theorem hmac : Statement .hmac := by unfold Statement; decide

theorem truncate : Statement .truncate := by unfold Statement; decide

theorem clear : Statement .clear := by unfold Statement; decide

end Sys2Proof.Laws.RoundTrip
end

