-- ==== Sys2Proof/Machine/HostSequence.lean ====
section
/-! DEFINITION. The host's notation and procedures as lists of bus transactions (spec/30_encoding.md R108, R109; spec/70_reset_and_hazards.md R271, R275-R277). None of it is the block's: a step uses nothing of this file. -/

namespace Sys2Proof.Machine

/-! ### Notation -/

/-- `WR <reg>, <value>` (R108). -/
def hostWr (r : Reg) (v : Word) : Event := .write (regOffset r) 4 v

/-- `RD <reg>` (R108). -/
def hostRd (r : Reg) : Event := .read (regOffset r) 4

/-- When `POLL <reg>, <mask>, <value>` stops repeating its read (R108). -/
def pollSatisfied (mask value v : Word) : Bool := decide (v &&& mask = value)

/-- `POLL` that reads the register `n` times (R108). -/
def hostPoll (r : Reg) (n : Nat) : List Event := List.replicate n (hostRd r)

/-- The pseudo-instructions `NOP`, `GENERATE`, `HMAC`, `TRUNCATE`, `CLEAR` (R109). -/
def hostIssue (i : Instr) : Event := hostWr .cmd (encodeCommand i)

/-- `SETCTRL alg, digits, ie_done, ie_err` (R109). -/
def hostSetCtrl (alg : BitVec 2) (digits : BitVec 4) (ieDone ieErr : Bool) : Event :=
  hostWr .ctrl (flagBit ieErr 9 ||| flagBit ieDone 8 ||| digits.zeroExtend 32 <<< 4
    ||| alg.zeroExtend 32)

/-- `LOADKEY b0 .. b(n-1)` (R109): the length, then ceil(n/4) key words with missing bytes 0. DESIGN CHOICE: for n > 256 the expansion names KEY64 and above, which do not exist, and R109 is silent; the model writes KEY_LEN = n and leaves out every word past KEY63 (notes/assumptions/18.md). -/
def hostLoadKey (k : List Byte) : List Event :=
  hostWr .keyLen (BitVec.ofNat 32 k.length)
    :: ((List.finRange 64).filter fun j => j.val < (k.length + 3) / 4).map fun j =>
      hostWr (.keyWord j)
        (be32 (byteAt k (4 * j.val)) (byteAt k (4 * j.val + 1)) (byteAt k (4 * j.val + 2))
          (byteAt k (4 * j.val + 3)))

/-- `LOADCTR c` (R109). -/
def hostLoadCtr (c : DWord) : List Event :=
  [hostWr .cntHi (c.extractLsb' 32 32), hostWr .cntLo (c.extractLsb' 0 32)]

/-- When `WAIT` ends: STATUS.DONE reads 1 (R109). -/
def waitSatisfied (status : Word) : Bool := pollSatisfied 0x00000002 0x00000002 status

/-- `ACK` (R109): clears DONE, ERR with ERRCODE, and OVR. -/
def hostAck : Event := hostWr .status 0x0000000E

/-! ### Procedures -/

/-- Why a host procedure does not touch the block. -/
inductive HostError
  | missingSecret   -- the secret is empty (R275)
  | badPeriod       -- a TOTP period that is not positive (spec/93_implementation_defined.md)
deriving DecidableEq, Repr

/-- The key a host loads: a key of more than 256 bytes is hashed first (R275). -/
def hostKey (alg : Alg) (k : List Byte) : List Byte := if k.length > 256 then hashOf alg k else k

/-- CTRL.DIGITS for a wanted number of digits: 0 takes the default, above 15 the field is 15 (R276). -/
def hostDigits (digits : Nat) : BitVec 4 := BitVec.ofNat 4 (min digits 15)

/-- The zeros a host prepends when it wants more than 15 digits (R276). -/
def hostPadding (digits : Nat) : List Byte := List.replicate (digits - 15) 0x30

/-- When a host may write operands: STATUS.BUSY reads 0 (R271). -/
def notBusy (status : Word) : Bool := pollSatisfied 0x00000001 0x00000000 status

/-- One use of the block for GENERATE (R271): `polls` reads of STATUS until `notBusy`, the operands, the command, `polls` reads of STATUS until `waitSatisfied`, STATUS and the results, the acknowledgement. DESIGN CHOICE: one of the orders R271 allows, waiting by polling with the interrupts disabled, and reading the results but DIGEST whatever ERR is (notes/assumptions/19.md). -/
def generateUse (alg : Alg) (k : List Byte) (c : DWord) (digits polls : Nat) : List Event :=
  hostPoll .status polls
    ++ [hostSetCtrl (algCode alg) (hostDigits digits) false false] ++ hostLoadKey (hostKey alg k)
    ++ hostLoadCtr c ++ [hostIssue .generate] ++ hostPoll .status polls
    ++ [hostRd .status, hostRd (.ascii 0), hostRd (.ascii 1), hostRd (.ascii 2), hostRd (.ascii 3),
      hostRd .code, hostRd .dbc, hostRd .info, hostAck]

/-- HOTP (R276): always SHA-1, the given counter verbatim, `counter mod 2^64`. The secret is already decoded to bytes (R275), and DESIGN CHOICE: it is these bytes that are checked for being empty (notes/assumptions/19.md). -/
def hotpUse (secret : List Byte) (c : Int) (digits polls : Nat) : Except HostError (List Event) :=
  if secret = [] then .error .missingSecret
  else .ok (generateUse .sha1 secret (BitVec.ofInt 64 c) digits polls)

/-- The time a TOTP uses: a supplied time that is not 0, otherwise the host's clock (R277). -/
def totpTime (supplied : Option Int) (now : Int) : Int :=
  match supplied with
  | some t => if t = 0 then now else t
  | none => now

/-- TOTP (R277): SHA-256 and period 30 by default, the counter by division truncating toward zero (spec/90_conflicts.md C4). -/
def totpUse (secret : List Byte) (alg : Option Alg) (period : Option Int) (time : Option Int)
    (now : Int) (digits polls : Nat) : Except HostError (List Event) :=
  if secret = [] then .error .missingSecret
  else if period.getD 30 ≤ 0 then .error .badPeriod
  else .ok (generateUse (alg.getD .sha256) secret
    (BitVec.ofInt 64 ((totpTime time now).tdiv (period.getD 30))) digits polls)

end Sys2Proof.Machine
end

