-- ==== Sys2Proof/Tests/Slice0.lean ====
section
/-! SUPPORT. The model's own tests, each with the place in spec/ its expected result comes from, and a witness for the hypotheses of every obligation that has any. -/

namespace Sys2Proof.Tests

open Sys2Proof.Machine Sys2Proof.Safety

/-! ### Small states -/

/-- The outcome is a next state with the property. -/
def nextIs (o : Host.Outcome State Fault Refusal) (p : State → Bool) : Bool :=
  match o with
  | .next t => p t
  | .fault _ => false
  | .refused _ => false

/-- The outcome is this fault. -/
def faultIs (o : Host.Outcome State Fault Refusal) (f : Fault) : Bool :=
  match o with
  | .next _ => false
  | .fault g => decide (f = g)
  | .refused _ => false

/-- The outcome is this refusal. -/
def refusalIs (o : Host.Outcome State Fault Refusal) (r : Refusal) : Bool :=
  match o with
  | .next _ => false
  | .fault _ => false
  | .refused q => decide (r = q)

/-- K20, the ASCII key "12345678901234567890" (spec/95_test_vectors.md). -/
def k20 : List Byte := (List.range 20).map fun i => BitVec.ofNat 8 (0x30 + (i + 1) % 10)

/-- Kn, the key whose byte i is i mod 256 (spec/95_test_vectors.md). -/
def kn (n : Nat) : List Byte := (List.range n).map fun i => BitVec.ofNat 8 i

/-- An IDLE state with a key, a counter and CTRL. -/
def keyed (k : List Byte) (c : DWord) (ctrl : Word) : State :=
  { State.reset with
    key := zeroFilled 256 k.length k
    keyLen := BitVec.ofNat 9 k.length
    cntHi := c.extractLsb' 32 32
    cntLo := c.extractLsb' 0 32
    ctrl := ctrl }

/-- A state whose next event is `e`. -/
def before (e : Event) (s : State) : State := { s with pending := [e] }

/-- A state with a long command in progress. -/
def busy (op : LongOp) (s : State) : State := { s with phase := .busy op }

/-- A state with these words in DIGEST0, DIGEST1, .. -/
def withDigest (ws : List Word) (s : State) : State :=
  { s with dig := zeroFilled 64 (4 * ws.length) (ws.flatMap fun w => bytesBE w.toNat 4) }

/-- What a read of STATUS gives after the outcome; none where it is no next state. -/
def statusAfter (o : Host.Outcome State Fault Refusal) : Option Word :=
  match o with
  | .next t => some (regRead .status t)
  | .fault _ => none
  | .refused _ => none

/-- DBC, CODE, INFO and ASCII0..3. -/
def results (s : State) : List Word :=
  [regRead .dbc s, regRead .code s, regRead .info s, regRead (.ascii 0) s, regRead (.ascii 1) s,
    regRead (.ascii 2) s, regRead (.ascii 3) s]

/-! ### Well-formedness: an ill-formed event for each check, refused -/

theorem test_outside_is_ill_formed :
    Event.wellFormed (.read 0x200 4) = false ∧ Event.wellFormed (.write (-4) 4 0) = false
      ∧ Event.wellFormed (.read 0x1FC 4) = true ∧ Event.wellFormed (.read 0 4) = true := by decide

theorem test_size_is_checked :
    Event.wellFormed (.read 0x008 2) = false ∧ Event.wellFormed (.write 0x008 1 0) = false
      ∧ Event.wellFormed (.read 0x008 8) = false := by decide

theorem test_alignment_is_checked : Event.wellFormed (.read 0x082 4) = false := by decide

-- spec/95_test_vectors.md 4.4
theorem test_reserved_offsets_are_checked :
    ∀ off ∈ [0x02C, 0x03C, 0x050, 0x07C, 0x0C0, 0x0FC],
      Event.wellFormed (.read off 4) = false := by decide

theorem test_edges_of_reserved_ranges_are_registers :
    ∀ off ∈ [0x028, 0x040, 0x04C, 0x080, 0x0BC, 0x100, 0x1FC],
      Event.wellFormed (.read off 4) = true := by decide

theorem test_every_command_is_well_formed :
    ∀ i ∈ [Instr.nop, .generate, .hmac, .truncate, .clear], i.wellFormed = true := by decide

theorem test_step_refuses_outside :
    refusalIs (step (before (.read 0x200 4) State.reset)) .outsideWindow = true := by decide

-- R74: OVR is not set even while BUSY
theorem test_step_faults_on_bus_errors :
    ∀ e ∈ [Event.write 0x0C0 4 0, .read 0x082 4, .read 0x000 1, .read 0x02C 4],
      faultIs (step (before e (busy .hmac State.reset))) .busError = true := by decide

/-! ### Decoding: words written out from R100 and R102 -/

theorem test_decode_nop :
    decodeCommand 0b0000_0000_0000_0000_0000_0000_0000_0000 = .ok .nop := by decide
theorem test_decode_generate :
    decodeCommand 0b0000_0000_0000_0000_0000_0000_0000_0001 = .ok .generate := by decide
theorem test_decode_hmac :
    decodeCommand 0b0000_0000_0000_0000_0000_0000_0000_0010 = .ok .hmac := by decide
theorem test_decode_truncate :
    decodeCommand 0b0000_0000_0000_0000_0000_0000_0000_0011 = .ok .truncate := by decide
theorem test_decode_clear :
    decodeCommand 0b0000_0000_0000_0000_0000_0000_0000_0100 = .ok .clear := by decide

theorem test_decode_table_words :
    decodeTableWord 32 3 = some .truncate ∧ decodeTableWord 32 0x10 = none
      ∧ decodeTableWord 32 5 = none ∧ decodeTableWord 64 0x100000001 = none
      ∧ decodeTableWord 4 4 = some .clear := by decide

-- R102, R127; spec/95_test_vectors.md 4.1
theorem test_illegal_words :
    statusAfter (commandWrite 0x00000007 State.reset) = some 0x56
      ∧ statusAfter (commandWrite 0x00000010 State.reset) = some 0x56
      ∧ statusAfter (commandWrite 0x80000001 State.reset) = some 0x56
      ∧ statusAfter (commandWrite 0x0000000F State.reset) = some 0x56 := by decide

-- spec/95_test_vectors.md 4.5: after reset `WR CMD, 1` gives STATUS 0x16
theorem test_fetch_word_runs_generate :
    statusAfter (step (State.reset.withFetchWord 32 1)) = some 0x16 := by decide

theorem test_fetch_word_runs_truncate :
    statusAfter (step (State.reset.withFetchWord 32 3)) = some 0x01 := by decide

/-! ### Commands -/

-- spec/95_test_vectors.md 4.2: NOP keeps STATUS 0x16
theorem test_nop_keeps_the_record :
    statusAfter (exec .nop { State.reset with
      doneFlag := true, errFlag := true, errCode := .missingKey }) = some 0x16 := by decide

-- spec/95_test_vectors.md 4.3: NOP while BUSY sets OVR
theorem test_nop_while_busy :
    statusAfter (exec .nop (busy .generate State.reset)) = some 0x09 := by decide

-- spec/95_test_vectors.md 4.2: CLEAR with OVR = 1
theorem test_clear_keeps_ovr_and_ctrl :
    nextIs (exec .clear { withDigest [1, 2] (keyed k20 1 0x60) with ovrFlag := true })
      (fun t => decide
        (regRead .status t = 0x0A ∧ regRead .ctrl t = 0x60 ∧ regRead .keyLen t = 0
          ∧ regRead .cntLo t = 0 ∧ regRead (.digest 1) t = 0 ∧ t.key.toList.take 20 = List.replicate 20 0))
      = true := by decide +kernel

-- spec/95_test_vectors.md 4.3: CLEAR while BUSY is dropped
theorem test_clear_while_busy :
    nextIs (exec .clear (busy .generate (keyed k20 1 0x60))) (fun t => decide
      (regRead .status t = 0x09 ∧ t.keyLen = 20 ∧ t.phase = .busy .generate)) = true := by
  decide +kernel

/-! ### Errors -/

-- spec/95_test_vectors.md 4.1: MISSING_KEY wins over UNSUPPORTED_ALG
theorem test_missing_key_wins :
    statusAfter (exec .generate (keyed [] 0 0x63)) = some 0x16 := by decide +kernel

-- spec/95_test_vectors.md 4.1: KEY_TOO_LONG wins over UNSUPPORTED_ALG
theorem test_key_too_long_wins :
    statusAfter (exec .hmac { State.reset with keyLen := 0x101, ctrl := 0x63 })
      = some 0x36 := by decide

-- spec/95_test_vectors.md 4.1: TRUNCATE keeps DIGEST
theorem test_unsupported_alg_keeps_the_digest :
    nextIs (exec .truncate (withDigest [7] (keyed k20 1 0x63))) (fun t => decide
      (regRead .status t = 0x26 ∧ regRead (.digest 0) t = 7)) = true := by decide +kernel

-- spec/95_test_vectors.md 4.1: KEY_LEN = 256 is accepted
theorem test_longest_key_is_accepted :
    statusAfter (exec .generate { State.reset with keyLen := 0x100 }) = some 0x01 := by decide

/-! ### Registers, STATUS and the interrupt -/

-- spec/95_test_vectors.md 4.3
theorem test_ctrl_reserved_bits :
    nextIs (step (before (.write 0x008 4 0xFFFFFFFF) State.reset))
      (fun t => decide (regRead .ctrl t = 0x3F3)) = true := by decide

-- spec/95_test_vectors.md 4.1
theorem test_key_len_reserved_bits :
    nextIs (step (before (.write 0x014 4 0xFFFFFFFF) State.reset))
      (fun t => decide (regRead .keyLen t = 0x1FF)) = true := by decide

-- spec/95_test_vectors.md 4.4: DIGEST3
theorem test_digest_packs_big_endian :
    nextIs (step (before (.write 0x08C 4 0x01020304) State.reset)) (fun t => decide
      (t.dig.toList.drop 11 = [0, 1, 2, 3, 4] ++ List.replicate 48 0
        ∧ regRead (.digest 3) t = 0x01020304)) = true := by decide +kernel

-- R39, R109: KEY4 of K20; the key reads as 0
theorem test_key_word :
    nextIs (step (before (.write 0x110 4 0x37383930) State.reset)) (fun t => decide
      ((t.key.toList.drop 16).take 5 = [0x37, 0x38, 0x39, 0x30, 0]
        ∧ regRead (.keyWord 4) t = 0)) = true := by decide +kernel

-- spec/95_test_vectors.md 4.3: a counter write while BUSY
theorem test_operand_write_while_busy :
    nextIs (step (before (.write 0x01C 4 5) (busy .generate (keyed k20 1 0x60)))) (fun t => decide
      (regRead .cntLo t = 1 ∧ regRead .status t = 0x09 ∧ t.responses = [.ok])) = true := by
  decide +kernel

/-- A state whose STATUS reads 0x1E. -/
def erred : State :=
  { State.reset with doneFlag := true, errFlag := true, ovrFlag := true, errCode := .missingKey }

-- spec/95_test_vectors.md 4.3: STATUS writes on STATUS 0x1E
theorem test_status_write :
    regRead .status (statusWrite 0x2 erred) = 0x1C ∧ regRead .status (statusWrite 0x4 erred) = 0x0A
      ∧ regRead .status (statusWrite 0xE erred) = 0x00
      ∧ regRead .status (statusWrite 0xFFFFFFF1 erred) = 0x1E
      ∧ statusAfter (step (before (.write 0x010 4 0xE) erred)) = some 0x00 := by decide

-- spec/95_test_vectors.md 4.3: the interrupt bit of STATUS
theorem test_irq_level :
    regRead .status { State.reset with doneFlag := true, ctrl := 0x160 } = 0x102
      ∧ regRead .status { State.reset with
        doneFlag := true, errFlag := true, errCode := .missingKey, ctrl := 0x260 } = 0x116
      ∧ regRead .status { State.reset with doneFlag := true, ctrl := 0x260 } = 0x002 := by decide

-- spec/95_test_vectors.md 4.5
theorem test_reset_while_busy :
    nextIs (step (before .reset (busy .generate (keyed k20 1 0x160))))
      (fun t => decide (regRead .ctrl t = 0 ∧ regRead .status t = 0 ∧ t.keyLen = 0 ∧ t.cntLo = 0
        ∧ t.key.toList.take 20 = List.replicate 20 0)) = true := by decide +kernel

theorem test_read_after_reset :
    nextIs (step (before (.read 0x004 4) State.reset))
      (fun t => decide (t.responses = [.data 0x0000F407])) = true := by decide

/-! ### Host notation -/

-- R109; spec/95_test_vectors.md P5
theorem test_host_setctrl : hostSetCtrl 2 6 false false = .write 0x008 4 0x62 := by decide

-- spec/95_test_vectors.md: LOADKEY of K20
theorem test_host_loadkey :
    hostLoadKey k20
      = [.write 0x014 4 0x14, .write 0x100 4 0x31323334, .write 0x104 4 0x35363738,
        .write 0x108 4 0x39303132, .write 0x10C 4 0x33343536, .write 0x110 4 0x37383930] := by
  decide +kernel

-- R277, C4: 1111111109 / 30 = 0x023523EC, and -1 / 30 truncates to 0
theorem test_totp_counter :
    (1111111109 : Int).tdiv 30 = 0x023523EC ∧ (-1 : Int).tdiv 30 = 0
      ∧ totpTime (some 0) 59 = 59 ∧ totpTime (some 7) 59 = 7 := by decide

/-! ### Witnesses: every obligation's hypotheses are met -/

/-- A key of one byte. -/
def ready : State := { State.reset with keyLen := 1, ctrl := 0x60 }

/-- The state just before a CMD write of `w`. -/
def beforeCmd (w : Word) (s : State) : State := before (.write (regOffset .cmd) 4 w) s

theorem witness_DecodeInvertsEncode :
    decodeCommand 4 = .ok .clear ∧ (4#32).toNat ≤ 4 ∧ ¬(5#32).toNat ≤ 4
      ∧ (0x10#32).extractLsb' 4 28 ≠ 0 := by decide

theorem witness_RegisterMapDecodesExactly :
    decodeAccess 0x1FC 4 = .reg (.keyWord 63) ∧ decodeAccess 0x000 4 = .reg .id
      ∧ decodeAccess 0x028 4 = .reg .info ∧ decodeAccess 0x04C 4 = .reg (.ascii 3)
      ∧ decodeAccess 0x0BC 4 = .reg (.digest 15) := by decide

theorem witness_StepRunsTheDecodedCommand :
    WriteTurn .cmd 1 (beforeCmd 1 ready) ∧ decodeCommand 1 = .ok .generate := ⟨⟨_, rfl⟩, rfl⟩

theorem witness_BusErrorExactlyWhereTheMapSays :
    decodeAccess 0x028 4 ≠ .busError ∧ decodeAccess 0x02C 4 = .busError
      ∧ decodeAccess 0x03C 4 = .busError ∧ decodeAccess 0x040 4 ≠ .busError
      ∧ decodeAccess 0x04C 4 ≠ .busError ∧ decodeAccess 0x050 4 = .busError
      ∧ decodeAccess 0x07C 4 = .busError ∧ decodeAccess 0x080 4 ≠ .busError
      ∧ decodeAccess 0x0BC 4 ≠ .busError ∧ decodeAccess 0x0C0 4 = .busError
      ∧ decodeAccess 0x0FC 4 = .busError ∧ decodeAccess 0x100 4 ≠ .busError
      ∧ decodeAccess 0x1FC 4 ≠ .busError ∧ decodeAccess 0x000 2 = .busError
      ∧ decodeAccess 0x001 4 = .busError := by decide

theorem witness_PlacementOnlyShiftsTheWindow :
    ∃ addr : Nat, addr < Config.base ∨ Config.base + 0x200 ≤ addr :=
  ⟨Config.base + 0x200, .inr (Nat.le_refl _)⟩

theorem witness_ReadHasNoSideEffect :
    ∃ rest, (before (.read (regOffset .code) 4) ready).pending = .read (regOffset .code) 4 :: rest :=
  ⟨_, rfl⟩

theorem witness_IdentificationIsConstant :
    WriteTurn .id 0 (before (.write 0x000 4 0) ready)
      ∧ WriteTurn .caps 0 (before (.write 0x004 4 0) ready) := ⟨⟨_, rfl⟩, ⟨_, rfl⟩⟩

theorem witness_BuffersPackBigEndian :
    (15 : Fin 16).val = 4 * (3 : Fin 4).val + (3 : Fin 4).val
      ∧ (63 : Fin 64).val = 4 * (15 : Fin 16).val + (3 : Fin 4).val
      ∧ (63 : Fin 64).val / 4 = (15 : Fin 16).val ∧ (255 : Fin 256).val / 4 = (63 : Fin 64).val := by
  decide

theorem witness_OperandWriteReadsBack :
    (before (.write 0x018 4 9) ready).phase = .idle ∧ isOperandReg .cntHi = true
      ∧ WriteTurn .cntHi 9 (before (.write 0x018 4 9) ready)
      ∧ isOperandReg (.keyWord 63) = true
      ∧ WriteTurn (.keyWord 63) 9 (before (.write 0x1FC 4 9) ready) :=
  ⟨rfl, rfl, ⟨_, rfl⟩, rfl, ⟨_, rfl⟩⟩

theorem witness_WriteWhileBusyIsDropped :
    (busy .hmac ready).phase ≠ .idle ∧ isOperandReg (.digest 15) = true
      ∧ WriteTurn (.digest 15) 9 (before (.write 0x0BC 4 9) (busy .hmac ready))
      ∧ WriteTurn .cmd 5 (beforeCmd 5 (busy .hmac ready))
      ∧ isOperandReg (.ascii 3) = false ∧ WriteTurn (.ascii 3) 9 (before (.write 0x04C 4 9) ready)
      ∧ WriteTurn .status 2 (before (.write 0x010 4 2) (busy .hmac ready)) :=
  ⟨by decide, rfl, ⟨_, rfl⟩, ⟨_, rfl⟩, rfl, ⟨_, rfl⟩, ⟨_, rfl⟩⟩

theorem witness_StatusWriteClearsItsBits :
    WriteTurn .status 0xE (before (.write 0x010 4 0xE) (busy .hmac ready)) := ⟨_, rfl⟩

theorem witness_InterruptEnablesHaveNoOtherEffect :
    eraseEnables (before (.read 0x020 4) { ready with ctrl := 0x360 })
        = eraseEnables (before (.read 0x020 4) ready)
      ∧ ¬ReadTurn .ctrl (before (.read 0x020 4) ready)
      ∧ ¬ReadTurn .status (before (.read 0x020 4) ready)
      ∧ (∃ t, step (before (.read 0x020 4) ready) = .next t)
      ∧ ∃ t, step (before (.read 0x020 4) { ready with ctrl := 0x360 }) = .next t :=
  ⟨rfl, by simp [ReadTurn, before, regOffset], by simp [ReadTurn, before, regOffset], ⟨_, rfl⟩,
    ⟨_, rfl⟩⟩

theorem witness_BusyFollowsItsCommands :
    (∃ t, step (beforeCmd 1 ready) = .next t)
      ∧ AcceptTurn .generate (beforeCmd 1 ready) ∧ KeyedReady (beforeCmd 1 ready)
      ∧ AcceptTurn .hmac (beforeCmd 2 ready) ∧ KeyedReady (beforeCmd 2 ready)
      ∧ AcceptTurn .truncate (beforeCmd 3 ready) ∧ TruncateReady (beforeCmd 3 ready)
      ∧ EngineTurn (busy .generate ready) ∧ ResetTurn (before .reset (busy .generate ready)) :=
  ⟨⟨_, rfl⟩, ⟨rfl, ⟨_, rfl⟩⟩, by decide, ⟨rfl, ⟨_, rfl⟩⟩, by decide, ⟨rfl, ⟨_, rfl⟩⟩, by decide,
    .inl rfl, ⟨_, rfl⟩⟩

-- BusyFollowsItsCommands: BUSY goes on through a read
theorem witness_BusyFollowsItsCommands_goes_on :
    (∃ t, step (before (.read 0x020 4) (busy .hmac ready)) = .next t)
      ∧ (busy .hmac ready).phase ≠ .idle
      ∧ ¬EngineTurn (before (.read 0x020 4) (busy .hmac ready))
      ∧ ¬ResetTurn (before (.read 0x020 4) (busy .hmac ready)) :=
  ⟨⟨_, rfl⟩, by decide, by simp [EngineTurn, before], by simp [ResetTurn, before]⟩

theorem witness_DoneFollowsItsCauses :
    (∃ t, step (beforeCmd 4 ready) = .next t) ∧ CompletionTurn (beforeCmd 4 ready)
      ∧ CompletionTurn (busy .hmac ready) ∧ CompletionTurn (beforeCmd 1 State.reset)
      ∧ RecordClearTurn 1 (before (.write 0x010 4 2) { ready with doneFlag := true }) :=
  ⟨⟨_, rfl⟩, .inr (.inl ⟨rfl, ⟨_, rfl⟩⟩), .inl ⟨.inl rfl, by decide⟩,
    .inr (.inr (.inr (.inl ⟨.inl ⟨rfl, ⟨_, rfl⟩⟩, by decide⟩))),
    .inr (.inr (.inr (.inr (.inr (.inl ⟨2, ⟨_, rfl⟩, rfl⟩)))))⟩

theorem witness_ErrorFollowsItsCauses :
    (∃ t, step (beforeCmd 7 ready) = .next t) ∧ ErrorTurn (beforeCmd 7 ready)
      ∧ ErrorTurn (beforeCmd 3 { ready with ctrl := 3 })
      ∧ RecordClearTurn 2 (before (.write 0x010 4 4) { ready with errFlag := true }) :=
  ⟨⟨_, rfl⟩, .inl ⟨rfl, ⟨7, ⟨_, rfl⟩, by decide⟩⟩, .inr (.inr ⟨⟨rfl, ⟨_, rfl⟩⟩, by decide⟩),
    .inr (.inr (.inr (.inr (.inr (.inl ⟨4, ⟨_, rfl⟩, rfl⟩)))))⟩

theorem witness_OverrunIsSticky :
    (∃ t, step (beforeCmd 4 (busy .hmac ready)) = .next t) ∧ DropTurn (beforeCmd 4 (busy .hmac ready)) :=
  ⟨⟨_, rfl⟩, by decide, .cmd, 4, .inr rfl, ⟨_, rfl⟩⟩

theorem witness_NopDoesNothing :
    ready.phase = .idle ∧ (busy .hmac ready).phase ≠ .idle
      ∧ (0x10#32).extractLsb' 0 4 = 0 ∧ (0x10#32).extractLsb' 4 28 ≠ 0 := by decide

-- GenerateIsAccepted, HmacIsAccepted, HmacThenTruncateIsGenerate: the shortest and the longest key
theorem witness_KeyedReady :
    KeyedReady ready ∧ KeyedReady { ready with keyLen := 256 } := by decide

theorem witness_TruncateIsAccepted : TruncateReady State.reset := by decide

-- GenerateComputesTheCode, HmacWritesTheDigest, TruncateComputesTheCode
theorem witness_algOperand :
    algOperand ready = some .sha1 ∧ algOperand { ready with ctrl := 1 } = some .sha256
      ∧ algOperand { ready with ctrl := 2 } = some .sha512 := by decide

theorem witness_ClearZeroisesAtOnce :
    ready.phase = .idle ∧ (∃ t, exec .clear ready = .next t) ∧ (busy .hmac ready).phase ≠ .idle
      ∧ State.reset.keyLen = 0 := ⟨rfl, ⟨_, rfl⟩, by decide, rfl⟩

theorem witness_IllegalWordIsAnErrorCompletion :
    (0x10#32).extractLsb' 4 28 ≠ 0 ∧ 5 ≤ ((5#32).extractLsb' 0 4).toNat
      ∧ WriteTurn .cmd 5 (beforeCmd 5 ready) ∧ WriteTurn .cmd 0x10 (beforeCmd 0x10 ready) :=
  ⟨by decide, by decide, ⟨_, rfl⟩, ⟨_, rfl⟩⟩

theorem witness_ErrorCompletionClearsTheOutputs :
    State.reset.phase = .idle ∧ keyedCommandError State.reset = some .missingKey
      ∧ keyedCommandError { State.reset with keyLen := 257 } = some .keyTooLong
      ∧ keyedCommandError { ready with ctrl := 3 } = some .unsupportedAlg
      ∧ truncateError { ready with ctrl := 3 } = some .unsupportedAlg := by decide

theorem witness_ErrorPriority :
    (4 < (5#32).toNat) ∧ State.reset.keyLen.toNat = 0
      ∧ 256 < ({ ready with keyLen := 257 } : State).keyLen.toNat
      ∧ 1 ≤ ready.keyLen.toNat ∧ ready.keyLen.toNat ≤ 256 ∧ algField ready ≠ 3
      ∧ algField { ready with ctrl := 3 } = 3 := by decide

theorem witness_CommandFrame :
    (∃ t, exec .generate ready = .next t) ∧ (∃ t, exec .nop (busy .hmac ready) = .next t)
      ∧ (∃ t, exec .truncate { ready with ctrl := 3 } = .next t) := ⟨⟨_, rfl⟩, ⟨_, rfl⟩, ⟨_, rfl⟩⟩

theorem witness_EngineFrame :
    (∃ t, engineStep ready = .next t) ∧ (∃ t, engineStep (busy .truncate ready) = .next t)
      ∧ (∃ t, engineStep (busy .hmac ready) = .next t) := ⟨⟨_, rfl⟩, ⟨_, rfl⟩, ⟨_, rfl⟩⟩

/-- Two states alike only in the operands of GENERATE. -/
def other : State := { ready with code := 5, ovrFlag := true, key := setBufferWord ready.key 1 9 }

theorem witness_ResultsArePureFunctionsOfTheOperands :
    algField (busy .generate ready) = algField (busy .generate other)
      ∧ digitsField (busy .generate ready) = digitsField (busy .generate other)
      ∧ (ready.keyLen = other.keyLen ∧ ready.cntHi = other.cntHi ∧ ready.cntLo = other.cntLo
        ∧ ∀ i : Fin 256, i.val < ready.keyLen.toNat → ready.key[i] = other.key[i])
      ∧ ready.key[7] ≠ other.key[7]
      ∧ (∀ i : Fin 64, i.val < hlen .sha1 → ready.dig[i] = other.dig[i]) := by decide +kernel

theorem witness_ResultsPersist :
    (∃ t, step (before (.read 0x020 4) ready) = .next t)
      ∧ (∃ t, step (before (.write 0x080 4 1) ready) = .next t)
      ∧ (∃ t, step (busy .generate ready) = .next t) := ⟨⟨_, rfl⟩, ⟨_, rfl⟩, ⟨_, rfl⟩⟩

theorem witness_OperandsChangeOnlyByTheHost :
    (∃ t, step (before (.write 0x1FC 4 1) ready) = .next t)
      ∧ (∃ t, step (beforeCmd 4 ready) = .next t) ∧ (∃ t, step (before .engine ready) = .next t) :=
  ⟨⟨_, rfl⟩, ⟨_, rfl⟩, ⟨_, rfl⟩⟩

theorem witness_CompletionNeverFails :
    EngineTurn (before .engine (busy .generate ready)) ∧ EngineInv (busy .generate ready) ∧ (busy .generate ready).phase ≠ .idle
      ∧ EngineTurn (busy .generate ready) := ⟨.inr ⟨_, rfl⟩, by decide, by decide, .inl rfl⟩

theorem witness_StepStopsOnlyAtIllFormedTransactions :
    EngineInv ready ∧ Event.wellFormed (.read 0x000 4) = true
      ∧ Event.wellFormed (.read 0x02C 4) = false ∧ Event.wellFormed (.read 0x200 4) = false := by
  decide

theorem witness_RunEndsIdle :
    EngineInv (beforeCmd 1 ready) ∧ ∀ e ∈ (beforeCmd 1 ready).pending, e.wellFormed = true := by
  decide

-- ReservedBitsStayZero, EngineOperandsStayChecked, ErrorRecordStaysConsistent, ResultsStayOneTruncation
theorem witness_invariants :
    ReservedInv (beforeCmd 1 ready) ∧ EngineInv (beforeCmd 1 ready) ∧ RecordInv (beforeCmd 1 ready)
      ∧ ResultInv (beforeCmd 1 ready) ∧ ∃ t, step (beforeCmd 1 ready) = .next t :=
  ⟨by decide, by decide, by decide, by decide, ⟨_, rfl⟩⟩

/-- A state with the result "7" of one digit. -/
def oneDigit : State :=
  { ready with code := 7, dbc := 17, info := 0x80000100, asc := bufferOf fun i => if i.val = 0 then 0x37 else 0 }

theorem witness_ResultInv_valid : infoValid oneDigit = true ∧ ResultInv oneDigit := by decide

theorem witness_ResetAbandonsTheCommand :
    ResetTurn (before .reset (busy .generate ready)) ∧ (busy .generate ready).phase ≠ .idle
      ∧ (∃ t, step (before .reset (busy .generate ready)) = .next t) := ⟨⟨_, rfl⟩, by decide, ⟨_, rfl⟩⟩

theorem witness_SchedulesFollowTheirRecurrences :
    (List.replicate 16 (0 : Word)).length = 16 ∧ (List.replicate 16 (0 : DWord)).length = 16 := by
  decide

theorem witness_MessageWordsAreBigEndian :
    (messageBlocks 32 64 8 [0x61]).length = 1
      ∧ ((messageBlocks 32 64 8 [0x61])[0]?).map (fun ws => ws.getD 0 0) = some 0x61800000 := by
  decide +kernel

theorem witness_PaddingIsLeast :
    (55 + 1 + 0 + lengthBytes .sha1) % blockBytes .sha1 = 0
      ∧ (56 + 1 + 63 + lengthBytes .sha1) % blockBytes .sha1 = 0
      ∧ (111 + 1 + 0 + lengthBytes .sha512) % blockBytes .sha512 = 0 := by decide

theorem witness_HmacConstruction :
    blockBytes .sha1 < (kn 65).length ∧ (kn 64).length ≤ blockBytes .sha1
      ∧ blockBytes .sha512 < (kn 129).length ∧ (kn 128).length ≤ blockBytes .sha512 := by decide +kernel

theorem witness_HmacKeyEquivalences :
    State.reset.phase = .idle ∧ State.reset.keyLen = 0
      ∧ (kn 63 ++ [0]).length ≤ blockBytes .sha1 ∧ (kn 2).length + 62 ≤ blockBytes .sha1
      ∧ blockBytes .sha1 < (kn 65).length := by decide

theorem witness_HashedMessageSizes :
    ({ ready with keyLen := 256 } : State).keyLen.toNat ≤ 256 ∧ compressionCalls .sha1 55 = 1
      ∧ compressionCalls .sha1 56 = 2 ∧ compressionCalls .sha512 111 = 1
      ∧ compressionCalls .sha512 112 = 2 := by decide

theorem witness_EffectiveDigits :
    digitsField State.reset = 0 ∧ digitsField ready ≠ 0
      ∧ (0xF0#32 &&& 0xFFFFFF0F) = (State.reset.ctrl &&& 0xFFFFFF0F)
      ∧ (0x7FFFFFFF#32).getLsbD 31 = false := by decide

-- CodeIsTheExactRemainder, TextHasExactlyDDigits: d at 1, 9, 10 and 15
theorem witness_CodeAndText :
    (0x7FFFFFFF#32).getLsbD 31 = false ∧ (truncCode 0x7FFFFFFF 9).toNat = 147483647
      ∧ truncCode 0x7FFFFFFF 10 = 0x7FFFFFFF ∧ (digitsOf 0).head? = some 0x30 := by decide +kernel

theorem witness_TruncationDependsOnlyOnItsWindow :
    ((List.replicate 20 (0xFF : Byte)).getD 19 0).toNat % 16
        = ((List.replicate 19 (0xFF : Byte) ++ [0x0F]).getD 19 0).toNat % 16
      ∧ List.replicate 20 (0xFF : Byte) ≠ List.replicate 19 0xFF ++ [0x0F] := by decide

/-! ### The two units -/

-- spec/95_test_vectors.md 2.4: a key of exactly BLOCK bytes is not pre-hashed, one more byte is
theorem test_key_at_the_block_size :
    (hmac .sha1 (kn 64) (bytesBE 1 8)).take 4 = [0x01, 0x31, 0x4B, 0x4B]
      ∧ (hmac .sha1 (kn 65) (bytesBE 1 8)).take 4 = [0x7F, 0x7B, 0xB6, 0xB5] := by decide +kernel

-- spec/95_test_vectors.md 2.3: C = 2^64 - 1 with SHA-512
theorem test_counter_corner :
    (hmac .sha512 k20 (counterMessage (keyed k20 0xFFFFFFFFFFFFFFFF 0))).take 4
      = [0xB8, 0xA6, 0x5C, 0xC3] := by decide +kernel

-- spec/95_test_vectors.md 3.1: offset 15, P[0] with its top bit set (SHA-1, all ones: 3.2)
theorem test_largest_window :
    (truncateDigest .sha1 (List.replicate 20 0xFF) 6).offset = 15
      ∧ (truncateDigest .sha1 (List.replicate 20 0xFF) 6).dbc = 0x7FFFFFFF
      ∧ (truncateDigest .sha1 (List.replicate 20 0xFF) 6).code = 0x0007613F := by decide +kernel

-- spec/95_test_vectors.md 3.3: the digit sweep's corners
theorem test_digit_sweep :
    renderCode (truncCode 0x41397EEA 1) 1 = [0x32]
      ∧ renderCode (truncCode 0x41397EEA 3) 3 = [0x30, 0x38, 0x32]
      ∧ truncCode 0x41397EEA 9 = 0x059EB4EA ∧ truncCode 0x41397EEA 10 = 0x41397EEA
      ∧ renderCode (truncCode 0x41397EEA 15) 15
        = [0x30, 0x30, 0x30, 0x30, 0x30, 0x31, 0x30, 0x39, 0x34, 0x32, 0x38, 0x37, 0x30, 0x38,
          0x32]
      ∧ renderCode 0 6 = List.replicate 6 0x30 := by decide +kernel

/-! ### Completions of the three long commands -/

-- R123's example
theorem test_generate_r123 :
    nextIs (engineStep (busy .generate (keyed k20 1 0x60))) (fun t => decide
      (results t = [0x41397EEA, 0x0004616A, 0x8000060B, 0x32383730, 0x38320000, 0, 0]
        ∧ regRead (.digest 0) t = 0x75A48A19 ∧ regRead (.digest 4) t = 0x7A2D33AB
        ∧ regRead (.digest 5) t = 0 ∧ regRead .status t = 0x02)) = true := by decide +kernel

-- spec/95_test_vectors.md P5: SHA-512 with a key one byte longer than the block
theorem test_generate_p5 :
    nextIs (engineStep (busy .generate (keyed (kn 129) 1 0x62))) (fun t => decide
      (regRead (.digest 0) t = 0x93CAAD68 ∧ regRead .dbc t = 0x03806489
        ∧ regRead .info t = 0x8002060A ∧ regRead (.ascii 0) t = 0x37343539
        ∧ regRead (.ascii 1) t = 0x39330000)) = true := by decide +kernel

-- R124's example
theorem test_hmac_r124 :
    nextIs (engineStep (busy .hmac { keyed k20 0 0x00 with code := 7, info := 0x80000600 }))
      (fun t => decide
        (regRead (.digest 0) t = 0xCC93CF18 ∧ regRead (.digest 4) t = 0xB7CDE4B0
          ∧ regRead (.digest 5) t = 0 ∧ regRead .code t = 0 ∧ regRead .info t = 0)) = true := by
  decide +kernel

-- spec/95_test_vectors.md 2.2: SHA-256 with K20, C = 1
theorem test_hmac_sha256 :
    nextIs (engineStep (busy .hmac (keyed k20 1 0x01))) (fun t => decide
      (regRead (.digest 0) t = 0xEC9D4F68 ∧ regRead (.digest 7) t = 0x96CAB912
        ∧ regRead (.digest 8) t = 0)) = true := by decide +kernel

-- R125's example
theorem test_truncate_r125 :
    nextIs (engineStep (busy .truncate (withDigest
      [0x1F869869, 0x0E02CA16, 0x618550EF, 0x7F19DA8E, 0x945B555A] (keyed [] 0 0x60))))
      (fun t => decide (results t
        = [0x50EF7F19, 0x000D51D9, 0x8000060A, 0x38373239, 0x32310000, 0, 0])) = true := by
  decide +kernel

-- spec/95_test_vectors.md 3.2: ALG = 1 takes the offset from DIG[31]
theorem test_truncate_reads_the_last_byte :
    nextIs (engineStep (busy .truncate (withDigest
      [0x75A48A19, 0xD4CBE100, 0x644E8AC1, 0x397EEA74, 0x7A2D33AB] (keyed [] 0 0x61))))
      (fun t => decide (results t
        = [0x75A48A19, 0x000AF2D9, 0x80010600, 0x37313735, 0x32390000, 0, 0])) = true := by
  decide +kernel

end Sys2Proof.Tests
end

