-- ==== Sys2Proof/Proofs/EngineTurn.lean ====
section
/-! The engine's turn: the step it makes (R11) and that its completion never fails (R121, R234, R292). -/

namespace Sys2Proof.Safety
open Sys2Proof.Machine

/-- With no event left the step is the engine's (R292). -/
theorem step_of_pending_nil {s : State} (h : s.pending = []) : step s = engineStep s := by
  simp [step, stepNext, h]

/-- The engine's event gives the engine its step (R11). -/
theorem step_of_pending_engine {s : State} {rest : List Event} (h : s.pending = .engine :: rest) :
    step s = engineStep { s with pending := rest } := by
  simp [step, stepNext, runEvent, h]

/-- At its turn the engine steps, on the state less the event taken. -/
theorem step_of_engineTurn {s : State} (h : EngineTurn s) :
    step s = engineStep { s with pending := s.pending.tail } := by
  obtain hnil | ⟨rest, hcons⟩ := h
  · have hsame : { s with pending := s.pending.tail } = s := by rw [hnil, List.tail_nil, ← hnil]
    rw [hsame, step_of_pending_nil hnil]
  · rw [step_of_pending_engine hcons, hcons, List.tail_cons]

/-- A command in progress with a supported algorithm completes: the block is IDLE with DONE = 1, and the error record is the one its acceptance left (R121). -/
theorem engineStep_completes {s : State} (hbusy : s.phase ≠ .idle) (halg : algField s ≠ 3) :
    ∃ t, engineStep s = .next t ∧ t.phase = .idle ∧ t.doneFlag = true
      ∧ t.errFlag = s.errFlag ∧ t.errCode = s.errCode := by
  cases hp : s.phase with
  | idle => exact absurd hp hbusy
  | busy op =>
    obtain ⟨alg, ha⟩ := Option.ne_none_iff_exists'.1 (mt (algOperand_eq_none_iff s).1 halg)
    obtain ⟨-, -, -, -, -, -, -, herr, hcode, -⟩ := writeOutputs_frame op alg s
    exact ⟨_, engineStep_busy hp ha, rfl, rfl, herr, hcode⟩

/-- Settles O37: the acceptance checks kept by the engine invariant rule out the one fault of the engine's step, ALG = 3 (R156), and its empty record makes the completion a success. -/
theorem completionNeverFails : Obligations.CompletionNeverFails := by
  unfold Obligations.CompletionNeverFails
  refine ⟨fun s => step_of_engineTurn, fun s hinv hbusy hturn => ?_⟩
  obtain ⟨halg, -, -, herr, hcode⟩ := hinv hbusy
  obtain ⟨t, ht, hidle, hdone, hflag, hrec⟩ :=
    engineStep_completes (s := { s with pending := s.pending.tail }) hbusy halg
  exact ⟨t, (step_of_engineTurn hturn).trans ht, ht, hidle, hdone, hflag.trans herr,
    hrec.trans hcode⟩

end Sys2Proof.Safety
end

section
/-! The register map read backwards (R20, R75), and how words hold bytes and flags (R30, R40). -/

namespace Sys2Proof.Machine

/-! ### The register map -/

theorem regAt_regOffset (r : Reg) : regAt (regOffset r) = some r := by
  cases r with
  | ascii j => revert j; decide
  | digest j => revert j; decide
  | keyWord j => revert j; decide
  | _ => rfl

theorem regOffset_lt (r : Reg) : regOffset r < 0x200 := by
  cases r <;> simp only [regOffset] <;> omega

theorem regOffset_aligned (r : Reg) : regOffset r % 4 = 0 := by
  cases r <;> simp only [regOffset] <;> omega

/-- No two registers share an offset (R20). -/
@[simp] theorem regOffset_inj {r r' : Reg} : regOffset r = regOffset r' ↔ r = r' := by
  refine ⟨fun h => ?_, fun h => h ▸ rfl⟩
  have hat := regAt_regOffset r
  rw [h, regAt_regOffset r'] at hat
  exact (Option.some.inj hat).symm

theorem regOffset_of_singleRegAt {n : Nat} {r : Reg} (h : singleRegAt n = some r) :
    regOffset r = n := by
  unfold singleRegAt at h
  split at h <;> cases h <;> rfl

/-- The register found at an aligned offset is the one the table puts there (R20, R75). -/
theorem regOffset_of_regAt {n : Nat} {r : Reg} (h : regAt n = some r) (h4 : n % 4 = 0) :
    regOffset r = n := by
  unfold regAt at h
  split_ifs at h
  · exact regOffset_of_singleRegAt h
  all_goals
    cases h
    simp only [regOffset, Fin.val_ofNat]
    omega

/-- An access reaches a register exactly at its offset and with 4 bytes (R20, R72, R74). -/
theorem decodeAccess_eq_reg_iff (off : Int) (size : Nat) (r : Reg) :
    decodeAccess off size = .reg r ↔ off = (regOffset r : Int) ∧ size = 4 := by
  constructor
  · intro h
    unfold decodeAccess at h
    split_ifs at h with hwin hsize
    split at h <;> cases h
    next hat =>
      have := regOffset_of_regAt hat (by omega)
      omega
  · rintro ⟨rfl, rfl⟩
    have hlt := regOffset_lt r
    have h4 := regOffset_aligned r
    unfold decodeAccess Config.windowBytes
    rw [if_neg (by omega), if_neg (by omega), Int.toNat_natCast, regAt_regOffset]

theorem decodeAccess_regOffset (r : Reg) : decodeAccess (regOffset r) 4 = .reg r :=
  (decodeAccess_eq_reg_iff _ _ _).2 ⟨rfl, rfl⟩

/-! ### Bytes of words -/

/-- Byte b of a word packed big-endian (R8, R40). -/
theorem extractLsb'_be32 (b0 b1 b2 b3 : Byte) (b : Fin 4) :
    (be32 b0 b1 b2 b3).extractLsb' (24 - 8 * b.val) 8 = [b0, b1, b2, b3][b] := by
  have h0 := b0.isLt
  have h1 := b1.isLt
  have h2 := b2.isLt
  have h3 := b3.isLt
  apply BitVec.eq_of_toNat_eq
  rw [BitVec.extractLsb'_toNat, be32_toNat, Nat.shiftRight_eq_div_pow]
  fin_cases b <;> dsimp <;> omega

/-- Byte b of word j of a buffer is the buffer's byte 4j + b (R40). -/
theorem extractLsb'_bufferWord {n : Nat} (buf : Vector Byte n) (j : Nat) (b : Fin 4) (i : Fin n)
    (h : i.val = 4 * j + b.val) :
    (bufferWord buf j).extractLsb' (24 - 8 * b.val) 8 = buf[i] := by
  have hi : byteAt buf.toList (4 * j + b.val) = buf[i] := by
    rw [← h]
    exact byteAt_vector buf i.val i.isLt
  rw [bufferWord, extractLsb'_be32, ← hi]
  fin_cases b <;> rfl

/-! ### Flags in words -/

@[simp] theorem getElem_flagBit (b : Bool) (i k : Nat) (h : k < 32) :
    (flagBit b i)[k] = (b && decide (k = i)) := by
  unfold flagBit
  cases b with
  | false => simp
  | true => rw [if_pos rfl, ← BitVec.twoPow_eq, BitVec.getElem_twoPow, Bool.true_and]

/-- A flag shows in no field beside its bit. -/
theorem extractLsb'_flagBit (b : Bool) (i start len : Nat) (h : i < start ∨ start + len ≤ i) :
    (flagBit b i).extractLsb' start len = 0 := by
  ext k hk
  unfold flagBit
  cases b with
  | false => simp
  | true =>
    rw [if_pos rfl, ← BitVec.twoPow_eq, BitVec.getElem_extractLsb', BitVec.getLsbD_twoPow]
    simp
    omega

/-! ### STATUS (R30) -/

@[simp] theorem regRead_status (s : State) : regRead .status s = statusWord s := rfl

theorem statusWord_busy (s : State) : (statusWord s).getLsbD 0 = busyFlag s := by
  simp [statusWord]

theorem statusWord_done (s : State) : (statusWord s).getLsbD 1 = s.doneFlag := by
  simp [statusWord]

theorem statusWord_err (s : State) : (statusWord s).getLsbD 2 = s.errFlag := by
  simp [statusWord]

theorem statusWord_ovr (s : State) : (statusWord s).getLsbD 3 = s.ovrFlag := by
  simp [statusWord]

theorem statusWord_irq (s : State) : (statusWord s).getLsbD 8 = irq s := by
  simp [statusWord]

theorem statusWord_errCode (s : State) :
    (statusWord s).extractLsb' 4 4 = errCodeValue s.errCode := by
  have hcode (e : ErrCode) :
      ((errCodeValue e).zeroExtend 32 <<< 4).extractLsb' 4 4 = errCodeValue e := by
    cases e <;> rfl
  simp [statusWord, BitVec.extractLsb'_or, extractLsb'_flagBit, hcode]

theorem statusWord_reserved (s : State) : (statusWord s).extractLsb' 9 23 = 0 := by
  have hcode (e : ErrCode) : ((errCodeValue e).zeroExtend 32 <<< 4).extractLsb' 9 23 = 0 := by
    cases e <;> rfl
  simp only [statusWord, BitVec.extractLsb'_or, hcode]
  simp [extractLsb'_flagBit]

end Sys2Proof.Machine

namespace Sys2Proof.Safety
open Sys2Proof.Machine

/-- Settles O3: the table by the definition of the offsets, and the access by the map read in both directions. -/
theorem registerMapDecodesExactly : Obligations.RegisterMapDecodesExactly := by
  unfold Obligations.RegisterMapDecodesExactly
  exact ⟨rfl, rfl, rfl, rfl, rfl, rfl, rfl, rfl, rfl, rfl, rfl, fun _ => rfl, fun _ => rfl,
    fun _ => rfl, decodeAccess_eq_reg_iff⟩

/-- Settles O9: a read word is the buffer's four bytes in order, and a written word replaces them. -/
theorem buffersPackBigEndian : Obligations.BuffersPackBigEndian := by
  unfold Obligations.BuffersPackBigEndian
  intro s
  exact ⟨fun j b i h => extractLsb'_bufferWord s.asc j b i h,
    fun j b i h => extractLsb'_bufferWord s.dig j b i h,
    fun j v i => setBufferWord_getElem s.dig j v i i.isLt,
    fun j v i => setBufferWord_getElem s.key j v i i.isLt⟩

/-- Settles O13: one field of the STATUS word after the other. -/
theorem statusReadFields : Obligations.StatusReadFields := by
  unfold Obligations.StatusReadFields
  intro s
  refine ⟨?_, statusWord_done s, statusWord_err s, statusWord_ovr s, ?_, statusWord_irq s,
    statusWord_reserved s⟩
  · rw [regRead_status, statusWord_busy]
    exact busyFlag_eq_true_iff s
  · rw [regRead_status, statusWord_errCode]
    cases s.errCode <;> rfl

/-- Settles O14: DONE and ERR read back from STATUS, and the enables are bits of CTRL. -/
theorem interruptIsTheLevelOfItsFourBits : Obligations.InterruptIsTheLevelOfItsFourBits := by
  unfold Obligations.InterruptIsTheLevelOfItsFourBits
  refine ⟨fun s => ⟨?_, statusWord_irq s, fun line => ?_⟩, rfl⟩
  · rw [regRead_status, statusWord_done, statusWord_err]
    rfl
  · rw [drivesLine, Bool.and_eq_true, decide_eq_true_iff]

/-- Settles O44: the fields of State.reset by definition, and each invariant there, the results being empty. -/
theorem resetValues : Obligations.ResetValues := by
  unfold Obligations.ResetValues
  have hinv : BlockInv State.reset := by decide
  refine ⟨rfl, by decide, rfl, rfl, rfl, rfl, rfl, rfl, fun i => ?_, fun i => ?_, fun i => ?_,
    rfl, rfl, rfl, rfl, rfl, hinv, fun s => ⟨⟨rfl, rfl⟩, rfl⟩⟩
  all_goals exact Vector.getElem_replicate i.isLt

end Sys2Proof.Safety
end

section
/-! What one step does, told by the turn it takes (R11), and which turns exclude each other. -/

namespace Sys2Proof.Machine

/-! ### Command words -/

/-- A command word is its reserved bits above its opcode (R100). -/
theorem word_toNat (w : Word) : w.toNat = 16 * (rsvField w).toNat + (opField w).toNat := by
  rw [rsvField, opField, BitVec.extractLsb'_toNat, BitVec.extractLsb'_toNat,
    Nat.shiftRight_eq_div_pow, Nat.shiftRight_eq_div_pow]
  omega

theorem decodeCommand_encodeCommand (i : Instr) : decodeCommand (encodeCommand i) = .ok i := by
  cases i <;> decide

/-- The decoder reads a command from its own word alone (R106). -/
theorem eq_encodeCommand_of_decodeCommand {w : Word} {i : Instr} (h : decodeCommand w = .ok i) :
    w = encodeCommand i := by
  have hw := word_toNat w
  unfold decodeCommand at h
  split_ifs at h with hrsv h0 h1 h2 h3 h4 <;> cases h
  all_goals
    rw [not_not.1 hrsv, ‹opField w = _›] at hw
    exact BitVec.eq_of_toNat_eq hw

/-- A word the decoder rejects is above every command's (R101, R102). -/
theorem lt_of_decodeCommand_error {w : Word} {e : IllegalWord} (h : decodeCommand w = .error e) :
    4 < w.toNat := by
  have hw := word_toNat w
  unfold decodeCommand at h
  split_ifs at h with hrsv h0 h1 h2 h3 h4
  · bv_omega
  · bv_omega

theorem encodeCommand_le (i : Instr) : (encodeCommand i).toNat ≤ 4 := by
  cases i <;> decide

@[simp] theorem encodeCommand_inj {i j : Instr} : encodeCommand i = encodeCommand j ↔ i = j := by
  refine ⟨fun h => ?_, congrArg _⟩
  have hj := decodeCommand_encodeCommand j
  rw [← h, decodeCommand_encodeCommand] at hj
  exact Except.ok.inj hj

/-! ### Acceptance -/

/-- The error an accepted command completes with at once, if any (R120); NOP and CLEAR raise none. -/
def commandError (i : Instr) (s : State) : Option ErrCode :=
  match i with
  | .generate | .hmac => keyedCommandError s
  | .truncate => truncateError s
  | .nop | .clear => none

/-- The long command a command begins (R46). -/
def longOp (i : Instr) : Option LongOp :=
  match i with
  | .generate => some .generate
  | .hmac => some .hmac
  | .truncate => some .truncate
  | .nop | .clear => none

theorem acceptedState_eq_acceptLong {i : Instr} {op : LongOp} (hop : longOp i = some op)
    (s : State) : acceptedState i s = acceptLong i op (commandError i s) s := by
  cases i <;> cases hop <;> rfl

theorem exists_longOp_of_error {i : Instr} {s : State} {e : ErrCode}
    (h : commandError i s = some e) : ∃ op, longOp i = some op := by
  cases i with
  | nop => cases h
  | clear => cases h
  | _ => exact ⟨_, rfl⟩

/-- An accepted command whose check fails is an error completion (R120, R232). -/
theorem acceptedState_of_error {i : Instr} {s : State} {e : ErrCode}
    (h : commandError i s = some e) :
    acceptedState i s = raiseError (some i) e (startRecord s) := by
  obtain ⟨op, hop⟩ := exists_longOp_of_error h
  rw [acceptedState_eq_acceptLong hop, h, acceptLong]

/-- An accepted long command whose checks pass begins its BUSY phase (R120). -/
theorem acceptedState_of_longOp {i : Instr} {s : State} {op : LongOp}
    (hop : longOp i = some op) (h : commandError i s = none) :
    acceptedState i s = startLong op (startRecord s) := by
  rw [acceptedState_eq_acceptLong hop, h, acceptLong]

theorem keyedCommandError_cases {s : State} {e : ErrCode} (h : keyedCommandError s = some e) :
    e = .missingKey ∨ e = .keyTooLong ∨ e = .unsupportedAlg := by
  unfold keyedCommandError at h
  split_ifs at h <;> cases h <;> decide

theorem truncateError_cases {s : State} {e : ErrCode} (h : truncateError s = some e) :
    e = .unsupportedAlg := by
  unfold truncateError at h
  split_ifs at h
  exact (Option.some.inj h).symm

/-- The checks raise no error but MISSING_KEY, KEY_TOO_LONG and UNSUPPORTED_ALG (R120, R231). -/
theorem commandError_cases {i : Instr} {s : State} {e : ErrCode} (h : commandError i s = some e) :
    e = .missingKey ∨ e = .keyTooLong ∨ e = .unsupportedAlg := by
  cases i with
  | generate => exact keyedCommandError_cases h
  | hmac => exact keyedCommandError_cases h
  | truncate => exact .inr (.inr (truncateError_cases h))
  | nop => cases h
  | clear => cases h

end Sys2Proof.Machine

namespace Sys2Proof.Safety
open Sys2Proof.Machine

/-! ### Turns -/

theorem writeTurn_iff_of_writeTurn {s : State} {r r' : Reg} {v v' : Word}
    (h : WriteTurn r v s) : WriteTurn r' v' s ↔ r = r' ∧ v = v' := by
  obtain ⟨rest, hp⟩ := h
  simp [WriteTurn, hp]

theorem not_engineTurn_of_writeTurn {s : State} {r : Reg} {v : Word} (h : WriteTurn r v s) :
    ¬EngineTurn s := by
  obtain ⟨rest, hp⟩ := h
  simp [EngineTurn, hp]

theorem not_resetTurn_of_writeTurn {s : State} {r : Reg} {v : Word} (h : WriteTurn r v s) :
    ¬ResetTurn s := by
  obtain ⟨rest, hp⟩ := h
  simp [ResetTurn, hp]

theorem not_engineTurn_of_resetTurn {s : State} (h : ResetTurn s) : ¬EngineTurn s := by
  obtain ⟨rest, hp⟩ := h
  simp [EngineTurn, hp]

theorem not_engineTurn_of_readTurn {s : State} {r : Reg} (h : ReadTurn r s) : ¬EngineTurn s := by
  obtain ⟨rest, hp⟩ := h
  simp [EngineTurn, hp]

theorem not_resetTurn_of_readTurn {s : State} {r : Reg} (h : ReadTurn r s) : ¬ResetTurn s := by
  obtain ⟨rest, hp⟩ := h
  simp [ResetTurn, hp]

theorem not_writeTurn_of_engineTurn {s : State} (h : EngineTurn s) (r : Reg) (v : Word) :
    ¬WriteTurn r v s :=
  fun hw => not_engineTurn_of_writeTurn hw h

theorem not_writeTurn_of_resetTurn {s : State} (h : ResetTurn s) (r : Reg) (v : Word) :
    ¬WriteTurn r v s :=
  fun hw => not_resetTurn_of_writeTurn hw h

theorem not_writeTurn_of_readTurn {s : State} {r : Reg} (h : ReadTurn r s) (r' : Reg) (v : Word) :
    ¬WriteTurn r' v s := by
  obtain ⟨rest, hp⟩ := h
  simp [WriteTurn, hp]

/-- GENERATE and HMAC raise no error exactly if the block is ready for them (R120). -/
theorem keyedReady_iff {s : State} (hidle : s.phase = .idle) :
    KeyedReady s ↔ keyedCommandError s = none := by
  rw [keyedCommandError_eq_none_iff]
  exact and_iff_right hidle

theorem truncateReady_iff {s : State} (hidle : s.phase = .idle) :
    TruncateReady s ↔ truncateError s = none := by
  rw [truncateError_eq_none_iff]
  exact and_iff_right hidle

theorem not_illegalTurn_of_acceptTurn {s : State} {i : Instr} (h : AcceptTurn i s) :
    ¬IllegalTurn s := by
  rintro ⟨-, w, hw, hlt⟩
  obtain ⟨-, rfl⟩ := (writeTurn_iff_of_writeTurn h.2).1 hw
  have := encodeCommand_le i
  omega

theorem acceptTurn_iff_of_acceptTurn {s : State} {i j : Instr} (h : AcceptTurn i s) :
    AcceptTurn j s ↔ i = j := by
  simp [AcceptTurn, h.1, writeTurn_iff_of_writeTurn h.2]

/-- The step of an accepted command is an error completion exactly if its check fails (R120). -/
theorem errorTurn_iff_of_acceptTurn {s : State} {i : Instr} (h : AcceptTurn i s) :
    ErrorTurn s ↔ commandError i s ≠ none := by
  simp only [ErrorTurn, not_illegalTurn_of_acceptTurn h, acceptTurn_iff_of_acceptTurn h,
    keyedReady_iff h.1, truncateReady_iff h.1, false_or]
  cases i <;> simp [commandError]

/-! ### The step of a write -/

/-- The step of a CMD write (R21, R120). -/
theorem step_of_cmdWrite {s : State} {w : Word} (h : WriteTurn .cmd w s) :
    step s = answer .ok (commandWrite w { s with pending := s.pending.tail }) := by
  obtain ⟨rest, hp⟩ := h
  rw [step_write hp (decodeAccess_regOffset _), regWrite, if_pos rfl, hp, List.tail_cons]

/-- The step of a write of a register other than CMD (R76). -/
theorem step_of_plainWrite {s : State} {r : Reg} {v : Word} (h : WriteTurn r v s)
    (hcmd : r ≠ .cmd) :
    step s = .next (respond .ok (plainWrite r v { s with pending := s.pending.tail })) := by
  obtain ⟨rest, hp⟩ := h
  rw [step_write hp (decodeAccess_regOffset r), regWrite, if_neg hcmd, hp, List.tail_cons]
  rfl

theorem plainWrite_busy {s : State} {r : Reg} (v : Word) (hr : isOperandReg r = true)
    (hbusy : s.phase ≠ .idle) : plainWrite r v s = dropWrite s := by
  have hstatus : r ≠ .status := by rintro rfl; cases hr
  rw [plainWrite, if_neg hstatus, if_pos hr, if_pos ((busyFlag_eq_true_iff s).2 hbusy)]

theorem plainWrite_readOnly {s : State} {r : Reg} (v : Word) (hr : isOperandReg r = false)
    (hstatus : r ≠ .status) : plainWrite r v s = s := by
  rw [plainWrite, if_neg hstatus, if_neg (by simp [hr])]

/-! ### The step by its turn -/

/-- What one step leaves, by the turn it takes: `s` is the state before it and `u` the state less the event taken. -/
inductive StepKind (s u : State) : State → Prop
  /-- The engine's turn while IDLE (R121). -/
  | waits (hturn : EngineTurn s) (hidle : s.phase = .idle) : StepKind s u u
  /-- The completion of a long command (R121). -/
  | completes (op : LongOp) (alg : Alg) (hturn : EngineTurn s) (hbusy : s.phase = .busy op)
      (halg : algOperand s = some alg) : StepKind s u (finishLong (writeOutputs op alg u))
  /-- Reset (R260). -/
  | resets (hturn : ResetTurn s) : StepKind s u (resetBlock u)
  /-- A read (R75). -/
  | reads (r : Reg) (hturn : ReadTurn r s) : StepKind s u (respond (.data (regRead r u)) u)
  /-- A write of STATUS (R78). -/
  | clearsFlags (v : Word) (hturn : WriteTurn .status v s) :
      StepKind s u (respond .ok (statusWrite v u))
  /-- A write of an operand register while IDLE (R76). -/
  | setsOperand (r : Reg) (v : Word) (hturn : WriteTurn r v s) (hr : isOperandReg r = true)
      (hidle : s.phase = .idle) : StepKind s u (respond .ok (operandWrite r v u))
  /-- A write of a read-only register (R76). -/
  | ignores (r : Reg) (v : Word) (hturn : WriteTurn r v s) (hr : isOperandReg r = false)
      (hstatus : r ≠ .status) (hcmd : r ≠ .cmd) : StepKind s u (respond .ok u)
  /-- A write of an operand register or CMD while BUSY (R77). -/
  | drops (hturn : DropTurn s) : StepKind s u (respond .ok (dropWrite u))
  /-- NOP (R122). -/
  | nops (hturn : AcceptTurn .nop s) : StepKind s u (respond .ok u)
  /-- CLEAR (R126). -/
  | clears (hturn : AcceptTurn .clear s) :
      StepKind s u (respond .ok (acceptedState .clear u))
  /-- A long command whose checks pass (R120). -/
  | starts (i : Instr) (op : LongOp) (hturn : AcceptTurn i s) (hop : longOp i = some op)
      (hready : commandError i s = none) : StepKind s u (respond .ok (startLong op (startRecord u)))
  /-- A long command whose checks fail (R120, R232). -/
  | fails (i : Instr) (e : ErrCode) (hturn : AcceptTurn i s) (herror : commandError i s = some e) :
      StepKind s u (respond .ok (raiseError (some i) e (startRecord u)))
  /-- An illegal command word (R127). -/
  | rejects (hturn : IllegalTurn s) :
      StepKind s u (respond .ok (raiseError none .illegalCmd (startRecord u)))

/-- An accepted command runs, fails its checks or begins (R120). -/
theorem stepKind_of_acceptTurn {s u : State} {i : Instr} (hturn : AcceptTurn i s)
    (hu : commandError i u = commandError i s) :
    StepKind s u (respond .ok (acceptedState i u)) := by
  cases herr : commandError i s with
  | some e =>
    rw [acceptedState_of_error (hu.trans herr)]
    exact .fails i e hturn herr
  | none =>
    have hlong (op : LongOp) (hop : longOp i = some op) :
        StepKind s u (respond .ok (acceptedState i u)) := by
      rw [acceptedState_of_longOp hop (hu.trans herr)]
      exact .starts i op hturn hop herr
    cases i with
    | nop => exact .nops hturn
    | clear => exact .clears hturn
    | generate => exact hlong .generate rfl
    | hmac => exact hlong .hmac rfl
    | truncate => exact hlong .truncate rfl

/-- A CMD word while IDLE runs its command, or is illegal (R120, R127). -/
theorem stepKind_of_commandWord {s u : State} {w : Word} (hw : WriteTurn .cmd w s)
    (hidle : s.phase = .idle) (hu : ∀ i, commandError i u = commandError i s) :
    StepKind s u (respond .ok (acceptedWordState w u)) := by
  unfold acceptedWordState
  cases hd : decodeCommand w with
  | ok i =>
    rw [eq_encodeCommand_of_decodeCommand hd] at hw
    exact stepKind_of_acceptTurn ⟨hidle, hw⟩ (hu i)
  | error e => exact .rejects ⟨hidle, w, hw, lt_of_decodeCommand_error hd⟩

theorem stepKind_of_plainWrite {s u : State} {r : Reg} {v : Word} (hw : WriteTurn r v s)
    (hcmd : r ≠ .cmd) (hu : u.phase = s.phase) :
    StepKind s u (respond .ok (plainWrite r v u)) := by
  obtain ⟨rfl, h⟩ | ⟨hr, hbusy, h⟩ | ⟨hr, hidle, h⟩ | ⟨hr, hstatus, h⟩ := plainWrite_cases r v u
    <;> rw [h]
  · exact .clearsFlags v hw
  · exact .drops ⟨hu ▸ hbusy, r, v, .inl hr, hw⟩
  · exact .setsOperand r v hw hr (hu ▸ hidle)
  · exact .ignores r v hw hr hstatus hcmd

theorem stepKind_of_engineStep {s t : State} (hturn : EngineTurn s)
    (h : engineStep { s with pending := s.pending.tail } = .next t) :
    StepKind s { s with pending := s.pending.tail } t := by
  obtain ⟨hidle, rfl⟩ | ⟨op, alg, hbusy, halg, rfl⟩ := engineStep_cases h
  · exact .waits hturn hidle
  · exact .completes op alg hturn hbusy halg

/-- Every step that answers a next state is of one of these kinds. -/
theorem stepKind_of_step {s t : State} (h : step s = .next t) :
    StepKind s { s with pending := s.pending.tail } t := by
  obtain ⟨hp, -⟩ | ⟨rest, hp, -⟩ | ⟨rest, hp, rfl⟩ | ⟨off, size, r, rest, hp, hd, rfl⟩
    | ⟨off, size, r, v, rest, hp, hd, hcmd, rfl⟩ | ⟨off, size, w, rest, hp, hd, hphase⟩ :=
      step_cases h
  · have hturn : EngineTurn s := .inl hp
    exact stepKind_of_engineStep hturn (step_of_engineTurn hturn ▸ h)
  · have hturn : EngineTurn s := .inr ⟨rest, hp⟩
    exact stepKind_of_engineStep hturn (step_of_engineTurn hturn ▸ h)
  · rw [hp]
    exact .resets ⟨rest, hp⟩
  · obtain ⟨rfl, rfl⟩ := (decodeAccess_eq_reg_iff _ _ _).1 hd
    rw [hp]
    exact .reads r ⟨rest, hp⟩
  · obtain ⟨rfl, rfl⟩ := (decodeAccess_eq_reg_iff _ _ _).1 hd
    rw [hp]
    exact stepKind_of_plainWrite ⟨rest, hp⟩ hcmd rfl
  · obtain ⟨rfl, rfl⟩ := (decodeAccess_eq_reg_iff _ _ _).1 hd
    rw [hp]
    obtain ⟨hidle, rfl⟩ | ⟨hbusy, rfl⟩ := hphase
    · exact stepKind_of_commandWord ⟨rest, hp⟩ hidle fun i => rfl
    · exact .drops ⟨hbusy, .cmd, w, .inr rfl, ⟨rest, hp⟩⟩

end Sys2Proof.Safety
end

section
/-! The record DONE, ERR and ERRCODE after a step (R32, R33, R35): which turns complete a command, and which clear the record. -/

namespace Sys2Proof.Safety
open Sys2Proof.Machine

/-! ### Which turns complete and which clear -/

/-- The step accepts a command word, legal or not (R120). -/
abbrev CommandTurn (s : State) : Prop := s.phase = .idle ∧ ∃ w, WriteTurn .cmd w s

theorem commandTurn_of_acceptTurn {s : State} {i : Instr} (h : AcceptTurn i s) : CommandTurn s :=
  ⟨h.1, _, h.2⟩

theorem commandTurn_of_illegalTurn {s : State} : IllegalTurn s → CommandTurn s
  | ⟨hidle, w, hw, _⟩ => ⟨hidle, w, hw⟩

theorem commandTurn_of_errorTurn {s : State} : ErrorTurn s → CommandTurn s
  | .inl h => commandTurn_of_illegalTurn h
  | .inr (.inl ⟨.inl h, _⟩) => commandTurn_of_acceptTurn h
  | .inr (.inl ⟨.inr h, _⟩) => commandTurn_of_acceptTurn h
  | .inr (.inr ⟨h, _⟩) => commandTurn_of_acceptTurn h

theorem not_commandTurn_of_writeTurn {s : State} {r : Reg} {v : Word} (h : WriteTurn r v s)
    (hr : r ≠ .cmd) : ¬CommandTurn s :=
  fun ⟨_, _, hw⟩ => hr ((writeTurn_iff_of_writeTurn h).1 hw).1

/-- The turn neither completes a command nor clears DONE or ERR. -/
structure QuietTurn (s : State) : Prop where
  noCompletion : ¬CompletionTurn s
  noClear : ∀ bit, ¬RecordClearTurn bit s

theorem not_errorTurn_of_quietTurn {s : State} (h : QuietTurn s) : ¬ErrorTurn s :=
  fun herr => h.noCompletion (.inr (.inr herr))

theorem not_completionTurn {s : State} (hcmd : ¬CommandTurn s)
    (heng : EngineTurn s → s.phase = .idle) : ¬CompletionTurn s
  | .inl ⟨hturn, hbusy⟩ => hbusy (heng hturn)
  | .inr (.inl h) => hcmd (commandTurn_of_acceptTurn h)
  | .inr (.inr h) => hcmd (commandTurn_of_errorTurn h)

/-- Without a command DONE and ERR are cleared by a write of STATUS or reset alone (R32, R33). -/
theorem recordClearTurn_iff {s : State} (hcmd : ¬CommandTurn s) (bit : Nat) :
    RecordClearTurn bit s
      ↔ (∃ v, WriteTurn .status v s ∧ v.getLsbD bit = true) ∨ ResetTurn s := by
  have haccept (i : Instr) : ¬AcceptTurn i s := fun h => hcmd (commandTurn_of_acceptTurn h)
  have hillegal : ¬IllegalTurn s := fun h => hcmd (commandTurn_of_illegalTurn h)
  simp only [RecordClearTurn, haccept, hillegal, false_or]

theorem quietTurn_of_not_commandTurn {s : State} (hcmd : ¬CommandTurn s)
    (heng : EngineTurn s → s.phase = .idle) (hstatus : ∀ v, ¬WriteTurn .status v s)
    (hreset : ¬ResetTurn s) : QuietTurn s where
  noCompletion := not_completionTurn hcmd heng
  noClear bit h := by
    obtain ⟨v, hv, -⟩ | h := (recordClearTurn_iff hcmd bit).1 h
    · exact hstatus v hv
    · exact hreset h

/-- A turn of the bus that writes neither CMD nor STATUS is quiet. -/
theorem quietTurn_of_writeTurn {s : State} {r : Reg} {v : Word} (h : WriteTurn r v s)
    (hcmd : r ≠ .cmd) (hstatus : r ≠ .status) : QuietTurn s :=
  quietTurn_of_not_commandTurn (not_commandTurn_of_writeTurn h hcmd)
    (fun heng => absurd heng (not_engineTurn_of_writeTurn h))
    (fun _ hw => hstatus ((writeTurn_iff_of_writeTurn h).1 hw).1) (not_resetTurn_of_writeTurn h)

theorem not_commandTurn_of_readTurn {s : State} {r : Reg} (h : ReadTurn r s) : ¬CommandTurn s :=
  fun ⟨_, _, hw⟩ => not_writeTurn_of_readTurn h _ _ hw

theorem quietTurn_of_readTurn {s : State} {r : Reg} (h : ReadTurn r s) : QuietTurn s :=
  quietTurn_of_not_commandTurn (not_commandTurn_of_readTurn h)
    (fun heng => absurd heng (not_engineTurn_of_readTurn h))
    (fun _ => not_writeTurn_of_readTurn h _ _) (not_resetTurn_of_readTurn h)

theorem quietTurn_of_dropTurn {s : State} : DropTurn s → QuietTurn s
  | ⟨hbusy, r, v, hr, hw⟩ =>
    quietTurn_of_not_commandTurn (fun h => hbusy h.1)
      (fun heng => absurd heng (not_engineTurn_of_writeTurn hw))
      (fun v' hw' => by
        obtain ⟨rfl, -⟩ := (writeTurn_iff_of_writeTurn hw).1 hw'
        simp [isOperandReg] at hr)
      (not_resetTurn_of_writeTurn hw)

/-- Every accepted command but NOP clears the record (R120). -/
theorem recordClearTurn_iff_of_acceptTurn {s : State} {i : Instr} (h : AcceptTurn i s)
    (bit : Nat) : RecordClearTurn bit s ↔ i ≠ .nop := by
  have hstatus (v : Word) : ¬WriteTurn .status v s := by
    simp [writeTurn_iff_of_writeTurn h.2]
  simp only [RecordClearTurn, not_illegalTurn_of_acceptTurn h, acceptTurn_iff_of_acceptTurn h,
    hstatus, not_resetTurn_of_writeTurn h.2]
  cases i <;> simp

theorem completionTurn_iff_of_acceptTurn {s : State} {i : Instr} (h : AcceptTurn i s) :
    CompletionTurn s ↔ i = .clear ∨ commandError i s ≠ none := by
  have heng : ¬EngineTurn s := not_engineTurn_of_writeTurn h.2
  simp only [CompletionTurn, heng, acceptTurn_iff_of_acceptTurn h, errorTurn_iff_of_acceptTurn h,
    false_and, false_or]

theorem quietTurn_of_nop {s : State} (h : AcceptTurn .nop s) : QuietTurn s where
  noCompletion := by simp [completionTurn_iff_of_acceptTurn h, commandError]
  noClear bit := by simp [recordClearTurn_iff_of_acceptTurn h]

/-- An error completion clears the record before it sets it (R120, R127). -/
theorem recordClearTurn_of_errorTurn {s : State} (h : ErrorTurn s) (bit : Nat) :
    RecordClearTurn bit s := by
  obtain h | ⟨h | h, -⟩ | ⟨h, -⟩ := h
  · exact .inr (.inr (.inr (.inr (.inl h))))
  · exact .inl h
  · exact .inr (.inl h)
  · exact .inr (.inr (.inl h))

/-- The engine's turn accepts no command: no write stands at the head of the list. -/
theorem not_commandTurn_of_engineTurn {s : State} (h : EngineTurn s) : ¬CommandTurn s :=
  fun ⟨_, _, hw⟩ => not_writeTurn_of_engineTurn h _ _ hw

theorem not_recordClearTurn_of_engineTurn {s : State} (h : EngineTurn s) (bit : Nat) :
    ¬RecordClearTurn bit s := by
  rw [recordClearTurn_iff (not_commandTurn_of_engineTurn h)]
  rintro (⟨v, hv, -⟩ | hreset)
  · exact not_writeTurn_of_engineTurn h _ _ hv
  · exact not_engineTurn_of_resetTurn hreset h

theorem quietTurn_of_waiting {s : State} (h : EngineTurn s) (hidle : s.phase = .idle) :
    QuietTurn s where
  noCompletion := not_completionTurn (not_commandTurn_of_engineTurn h) fun _ => hidle
  noClear := not_recordClearTurn_of_engineTurn h

theorem not_commandTurn_of_resetTurn {s : State} (h : ResetTurn s) : ¬CommandTurn s :=
  fun ⟨_, _, hw⟩ => not_writeTurn_of_resetTurn h _ _ hw

theorem not_completionTurn_of_resetTurn {s : State} (h : ResetTurn s) : ¬CompletionTurn s :=
  not_completionTurn (not_commandTurn_of_resetTurn h)
    fun heng => absurd heng (not_engineTurn_of_resetTurn h)

theorem recordClearTurn_of_resetTurn {s : State} (h : ResetTurn s) (bit : Nat) :
    RecordClearTurn bit s :=
  (recordClearTurn_iff (not_commandTurn_of_resetTurn h) bit).2 (.inr h)

theorem not_completionTurn_of_statusWrite {s : State} {v : Word} (h : WriteTurn .status v s) :
    ¬CompletionTurn s :=
  not_completionTurn (not_commandTurn_of_writeTurn h (by decide))
    fun heng => absurd heng (not_engineTurn_of_writeTurn h)

/-- A write of STATUS clears the record bits it has a 1 for (R78). -/
theorem recordClearTurn_iff_of_statusWrite {s : State} {v : Word} (h : WriteTurn .status v s)
    (bit : Nat) : RecordClearTurn bit s ↔ v.getLsbD bit = true := by
  rw [recordClearTurn_iff (not_commandTurn_of_writeTurn h (by decide))]
  simp [writeTurn_iff_of_writeTurn h, not_resetTurn_of_writeTurn h]

/-- A long command whose checks pass clears the record and completes nothing yet (R120). -/
theorem turns_of_start {s : State} {i : Instr} {op : LongOp} (h : AcceptTurn i s)
    (hop : longOp i = some op) (hready : commandError i s = none) :
    ¬CompletionTurn s ∧ ∀ bit, RecordClearTurn bit s := by
  have hclear : i ≠ .clear := by rintro rfl; cases hop
  have hnop : i ≠ .nop := by rintro rfl; cases hop
  exact ⟨by simp [completionTurn_iff_of_acceptTurn h, hclear, hready],
    fun bit => (recordClearTurn_iff_of_acceptTurn h bit).2 hnop⟩

/-! ### The record after a step -/

/-- What a step does to DONE, ERR and ERRCODE, by its turn (R32, R33, R35). -/
inductive RecordKind (s t : State) : Prop
  /-- A quiet turn keeps the record. -/
  | keeps (hturn : QuietTurn s) (hdone : t.doneFlag = s.doneFlag) (herr : t.errFlag = s.errFlag)
      (hcode : t.errCode = s.errCode)
  /-- The engine completes a long command: DONE is set. -/
  | completes (hturn : EngineTurn s) (hbusy : s.phase ≠ .idle) (hdone : t.doneFlag = true)
      (herr : t.errFlag = s.errFlag) (hcode : t.errCode = s.errCode)
  /-- Reset. -/
  | resets (hturn : ResetTurn s) (hdone : t.doneFlag = false) (herr : t.errFlag = false)
      (hcode : t.errCode = .noError)
  /-- A write of STATUS clears what its bits say. -/
  | clearsFlags (v : Word) (hturn : WriteTurn .status v s)
      (hdone : t.doneFlag = if v.getLsbD 1 then false else s.doneFlag)
      (herr : t.errFlag = if v.getLsbD 2 then false else s.errFlag)
      (hcode : t.errCode = if v.getLsbD 2 then .noError else s.errCode)
  /-- CLEAR: a clean record with DONE set. -/
  | clears (hturn : AcceptTurn .clear s) (hdone : t.doneFlag = true) (herr : t.errFlag = false)
      (hcode : t.errCode = .noError)
  /-- A long command begins with a clean record. -/
  | starts (i : Instr) (op : LongOp) (hturn : AcceptTurn i s) (hop : longOp i = some op)
      (hready : commandError i s = none) (hdone : t.doneFlag = false) (herr : t.errFlag = false)
      (hcode : t.errCode = .noError)
  /-- An error completion. -/
  | fails (hturn : ErrorTurn s) (hdone : t.doneFlag = true) (herr : t.errFlag = true)
      (hcode : t.errCode ≠ .noError ∧ t.errCode ≠ .hashFailure)

theorem recordKind_of_step {s t : State} (h : step s = .next t) : RecordKind s t := by
  cases stepKind_of_step h with
  | waits hturn hidle => exact .keeps (quietTurn_of_waiting hturn hidle) rfl rfl rfl
  | completes op alg hturn hbusy halg =>
    obtain ⟨-, -, -, -, -, -, -, herr, hcode, -⟩ :=
      writeOutputs_frame op alg { s with pending := s.pending.tail }
    exact .completes hturn (by simp [hbusy]) rfl herr hcode
  | resets hturn => exact .resets hturn rfl rfl rfl
  | reads r hturn => exact .keeps (quietTurn_of_readTurn hturn) rfl rfl rfl
  | clearsFlags v hturn => exact .clearsFlags v hturn rfl rfl rfl
  | setsOperand r v hturn hr hidle =>
    obtain ⟨-, hdone, herr, hcode, -⟩ := operandWrite_frame r v { s with pending := s.pending.tail }
    have hcmd : r ≠ .cmd := by rintro rfl; simp [isOperandReg] at hr
    have hstatus : r ≠ .status := by rintro rfl; simp [isOperandReg] at hr
    exact .keeps (quietTurn_of_writeTurn hturn hcmd hstatus) hdone herr hcode
  | ignores r v hturn hr hstatus hcmd =>
    exact .keeps (quietTurn_of_writeTurn hturn hcmd hstatus) rfl rfl rfl
  | drops hturn => exact .keeps (quietTurn_of_dropTurn hturn) rfl rfl rfl
  | nops hturn => exact .keeps (quietTurn_of_nop hturn) rfl rfl rfl
  | clears hturn => exact .clears hturn rfl rfl rfl
  | starts i op hturn hop hready => exact .starts i op hturn hop hready rfl rfl rfl
  | fails i e hturn herror =>
    have hturn' : ErrorTurn s := (errorTurn_iff_of_acceptTurn hturn).2 (by simp [herror])
    obtain rfl | rfl | rfl := commandError_cases herror <;> exact .fails hturn' rfl rfl (by simp)
  | rejects hturn => exact .fails (.inl hturn) rfl rfl (by simp)

/-- Settles O42: an error completion names a code other than NONE and HASH_FAILURE, and ERR and ERRCODE are cleared together. -/
theorem errorRecordStaysConsistent : Obligations.ErrorRecordStaysConsistent := by
  unfold Obligations.ErrorRecordStaysConsistent
  intro s t hinv h
  cases recordKind_of_step h with
  | keeps _ _ herr hcode => simpa only [RecordInv, herr, hcode] using hinv
  | completes _ _ _ herr hcode => simpa only [RecordInv, herr, hcode] using hinv
  | resets _ _ herr hcode => simp [RecordInv, herr, hcode]
  | clearsFlags v _ _ herr hcode =>
    rw [RecordInv, herr, hcode]
    split
    · simp
    · exact hinv
  | clears _ _ herr hcode => simp [RecordInv, herr, hcode]
  | starts _ _ _ _ _ _ herr hcode => simp [RecordInv, herr, hcode]
  | fails _ _ herr hcode => simp [RecordInv, herr, hcode]

/-- Settles O17: each kind of step sets DONE, keeps it or clears it, as its turn completes, is quiet or clears the record. -/
theorem doneFollowsItsCauses : Obligations.DoneFollowsItsCauses := by
  unfold Obligations.DoneFollowsItsCauses
  intro s t h
  cases recordKind_of_step h with
  | keeps hturn hdone => simp [hdone, hturn.noCompletion, hturn.noClear]
  | completes hturn hbusy hdone => exact iff_of_true hdone (.inl (.inl ⟨hturn, hbusy⟩))
  | resets hturn hdone =>
    simp [hdone, not_completionTurn_of_resetTurn hturn, recordClearTurn_of_resetTurn hturn]
  | clearsFlags v hturn hdone =>
    rw [hdone, recordClearTurn_iff_of_statusWrite hturn]
    cases v.getLsbD 1 <;> simp [not_completionTurn_of_statusWrite hturn]
  | clears hturn hdone => exact iff_of_true hdone (.inl (.inr (.inl hturn)))
  | starts i op hturn hop hready hdone =>
    obtain ⟨hcompletion, hclear⟩ := turns_of_start hturn hop hready
    simp [hdone, hcompletion, hclear]
  | fails hturn hdone => exact iff_of_true hdone (.inl (.inr (.inr hturn)))

/-- Settles O18: only an error completion sets ERR, with DONE and its code, and what clears ERR clears ERRCODE. -/
theorem errorFollowsItsCauses : Obligations.ErrorFollowsItsCauses := by
  unfold Obligations.ErrorFollowsItsCauses
  intro s t h
  cases recordKind_of_step h with
  | keeps hturn _ herr hcode =>
    simp [herr, hcode, not_errorTurn_of_quietTurn hturn, hturn.noClear]
  | completes hturn hbusy _ herr hcode =>
    have hno : ¬ErrorTurn s := fun he => hbusy (commandTurn_of_errorTurn he).1
    simp [herr, hcode, hno, not_recordClearTurn_of_engineTurn hturn]
  | resets hturn hdone herr hcode =>
    have hno : ¬ErrorTurn s := fun he => not_completionTurn_of_resetTurn hturn (.inr (.inr he))
    simp [herr, hcode, hno, recordClearTurn_of_resetTurn hturn]
  | clearsFlags v hturn hdone herr hcode =>
    have hno : ¬ErrorTurn s := fun he => not_completionTurn_of_statusWrite hturn (.inr (.inr he))
    rw [herr, hcode, recordClearTurn_iff_of_statusWrite hturn]
    cases v.getLsbD 2 <;> simp [hno]
  | clears hturn hdone herr hcode =>
    have hno : ¬ErrorTurn s := by simp [errorTurn_iff_of_acceptTurn hturn, commandError]
    simp [herr, hcode, hno, recordClearTurn_iff_of_acceptTurn hturn]
  | starts i op hturn hop hready hdone herr hcode =>
    obtain ⟨hcompletion, hclear⟩ := turns_of_start hturn hop hready
    have hno : ¬ErrorTurn s := by simp [errorTurn_iff_of_acceptTurn hturn, hready]
    simp [herr, hcode, hno, hclear]
  | fails hturn hdone herr hcode =>
    exact ⟨iff_of_true herr (.inl hturn), fun _ => ⟨hcode.1, hdone⟩, fun hno => absurd hturn hno,
      fun hno => absurd (recordClearTurn_of_errorTurn hturn 2) hno⟩

end Sys2Proof.Safety
end

section
/-! The flag OVR, the constants ID and CAPS, and PHASE after a step (R22, R23, R31, R34). -/

namespace Sys2Proof.Safety
open Sys2Proof.Machine

/-! ### OVR -/

theorem dropTurn_iff_of_writeTurn {s : State} {r : Reg} {v : Word} (h : WriteTurn r v s) :
    DropTurn s ↔ s.phase ≠ .idle ∧ (isOperandReg r = true ∨ r = .cmd) := by
  refine and_congr_right fun _ => ⟨?_, fun hr => ⟨r, v, hr, h⟩⟩
  rintro ⟨r', v', hr, hw⟩
  obtain ⟨rfl, -⟩ := (writeTurn_iff_of_writeTurn h).1 hw
  exact hr

/-- The turn clears OVR: a write of 1 to it, or reset (R34). -/
abbrev OvrClearTurn (s : State) : Prop :=
  (∃ v, WriteTurn .status v s ∧ v.getLsbD 3 = true) ∨ ResetTurn s

theorem ovrClearTurn_iff_of_statusWrite {s : State} {v : Word} (h : WriteTurn .status v s) :
    OvrClearTurn s ↔ v.getLsbD 3 = true := by
  simp [OvrClearTurn, writeTurn_iff_of_writeTurn h, not_resetTurn_of_writeTurn h]

/-- The turn drops no write and does not clear OVR. -/
abbrev OvrQuietTurn (s : State) : Prop := ¬DropTurn s ∧ ¬OvrClearTurn s

theorem ovrQuietTurn_of_no_write {s : State} (hw : ∀ r v, ¬WriteTurn r v s)
    (hreset : ¬ResetTurn s) : OvrQuietTurn s :=
  ⟨fun ⟨_, r, v, _, h⟩ => hw r v h, fun h => h.elim (fun ⟨v, h, _⟩ => hw _ v h) hreset⟩

theorem ovrQuietTurn_of_writeTurn {s : State} {r : Reg} {v : Word} (h : WriteTurn r v s)
    (hstatus : r ≠ .status) (hkept : s.phase = .idle ∨ isOperandReg r = false ∧ r ≠ .cmd) :
    OvrQuietTurn s := by
  rw [OvrQuietTurn, dropTurn_iff_of_writeTurn h, OvrClearTurn]
  refine ⟨?_, ?_⟩
  · rintro ⟨hbusy, hr⟩
    obtain hidle | ⟨hnot, hcmd⟩ := hkept
    · exact hbusy hidle
    · simp [hnot, hcmd] at hr
  · rintro (⟨v', hv, -⟩ | hreset)
    · exact hstatus ((writeTurn_iff_of_writeTurn h).1 hv).1
    · exact not_resetTurn_of_writeTurn h hreset

theorem ovrQuietTurn_of_commandTurn {s : State} : CommandTurn s → OvrQuietTurn s
  | ⟨hidle, _, hw⟩ => ovrQuietTurn_of_writeTurn hw (by decide) (.inl hidle)

/-- What a step does to OVR, by its turn (R34). -/
inductive OvrKind (s t : State) : Prop
  /-- A quiet turn keeps it. -/
  | keeps (hturn : OvrQuietTurn s) (hovr : t.ovrFlag = s.ovrFlag)
  /-- A dropped write sets it. -/
  | sets (hturn : DropTurn s) (hovr : t.ovrFlag = true)
  /-- Reset clears it. -/
  | resets (hturn : ResetTurn s) (hovr : t.ovrFlag = false)
  /-- A write of STATUS clears it where the word has a 1. -/
  | clearsFlags (v : Word) (hturn : WriteTurn .status v s)
      (hovr : t.ovrFlag = if v.getLsbD 3 then false else s.ovrFlag)

theorem ovrKind_of_step {s t : State} (h : step s = .next t) : OvrKind s t := by
  cases stepKind_of_step h with
  | waits hturn hidle =>
    exact .keeps (ovrQuietTurn_of_no_write (not_writeTurn_of_engineTurn hturn)
      fun hreset => not_engineTurn_of_resetTurn hreset hturn) rfl
  | completes op alg hturn hbusy halg =>
    obtain ⟨-, -, -, -, -, -, -, -, -, hovr, -⟩ :=
      writeOutputs_frame op alg { s with pending := s.pending.tail }
    exact .keeps (ovrQuietTurn_of_no_write (not_writeTurn_of_engineTurn hturn)
      fun hreset => not_engineTurn_of_resetTurn hreset hturn) hovr
  | resets hturn => exact .resets hturn rfl
  | reads r hturn =>
    exact .keeps (ovrQuietTurn_of_no_write (not_writeTurn_of_readTurn hturn)
      (not_resetTurn_of_readTurn hturn)) rfl
  | clearsFlags v hturn => exact .clearsFlags v hturn rfl
  | setsOperand r v hturn hr hidle =>
    obtain ⟨-, -, -, -, hovr, -⟩ := operandWrite_frame r v { s with pending := s.pending.tail }
    exact .keeps (ovrQuietTurn_of_writeTurn hturn (by rintro rfl; cases hr) (.inl hidle)) hovr
  | ignores r v hturn hr hstatus hcmd =>
    exact .keeps (ovrQuietTurn_of_writeTurn hturn hstatus (.inr ⟨hr, hcmd⟩)) rfl
  | drops hturn => exact .sets hturn rfl
  | nops hturn =>
    exact .keeps (ovrQuietTurn_of_commandTurn (commandTurn_of_acceptTurn hturn)) rfl
  | clears hturn =>
    exact .keeps (ovrQuietTurn_of_commandTurn (commandTurn_of_acceptTurn hturn)) rfl
  | starts i op hturn hop hready =>
    exact .keeps (ovrQuietTurn_of_commandTurn (commandTurn_of_acceptTurn hturn)) rfl
  | fails i e hturn herror =>
    exact .keeps (ovrQuietTurn_of_commandTurn (commandTurn_of_acceptTurn hturn))
      (raiseError_ovrFlag (some i) e _)
  | rejects hturn =>
    exact .keeps (ovrQuietTurn_of_commandTurn (commandTurn_of_illegalTurn hturn)) rfl

/-- A dropped write sets OVR and changes nothing else (R77). -/
theorem step_of_dropTurn {s : State} (h : DropTurn s) :
    step s = .next (respond .ok (dropWrite { s with pending := s.pending.tail })) := by
  obtain ⟨hbusy, r, v, hr, hw⟩ := h
  by_cases hcmd : r = .cmd
  · subst hcmd
    rw [step_of_cmdWrite hw, commandWrite_busy (s := { s with pending := s.pending.tail }) v hbusy,
      answer]
  · rw [step_of_plainWrite hw hcmd, plainWrite_busy (s := { s with pending := s.pending.tail }) v
      (hr.resolve_right hcmd) hbusy]

theorem ovrFlag_after_step {s t : State} (h : step s = .next t) :
    t.ovrFlag = true ↔ DropTurn s ∨ (s.ovrFlag = true ∧ ¬OvrClearTurn s) := by
  cases ovrKind_of_step h with
  | keeps hturn hovr =>
    obtain ⟨hdrop, hclear⟩ := hturn
    simp only [hovr, hdrop, hclear, false_or, not_false_eq_true, and_true]
  | sets hturn hovr => exact iff_of_true hovr (.inl hturn)
  | resets hturn hovr =>
    have hdrop : ¬DropTurn s := fun ⟨_, r, v, _, hw⟩ => not_writeTurn_of_resetTurn hturn r v hw
    simp [hovr, hdrop, hturn]
  | clearsFlags v hturn hovr =>
    rw [hovr, dropTurn_iff_of_writeTurn hturn, ovrClearTurn_iff_of_statusWrite hturn]
    cases v.getLsbD 3 <;> simp [isOperandReg]

/-- Settles O19: a dropped write sets OVR and nothing else, a write of STATUS or reset clears it, and every other turn keeps it. -/
theorem overrunIsSticky : Obligations.OverrunIsSticky := by
  unfold Obligations.OverrunIsSticky
  intro s t h
  refine ⟨?_, fun hdrop => ?_, fun _ => rfl⟩
  · rw [← not_or]
    exact ovrFlag_after_step h
  · exact Host.Outcome.next.inj (h.symm.trans (step_of_dropTurn hdrop))

/-! ### ID and CAPS -/

/-- The fields of CAPS (R23). -/
theorem capsValue_fields :
    capsValue.extractLsb' 0 3 = 0b111 ∧ capsValue.extractLsb' 3 1 = 0
      ∧ capsValue.extractLsb' 4 8 = 0x40 ∧ capsValue.extractLsb' 12 4 = 0xF
      ∧ capsValue.extractLsb' 16 16 = 0 := by
  decide

/-- Settles O8: the constants' fields by evaluation, and a write of a read-only register changes nothing. -/
theorem identificationIsConstant : Obligations.IdentificationIsConstant := by
  unfold Obligations.IdentificationIsConstant
  intro s
  obtain ⟨halgs, hbit3, hkey, hdigits, hreserved⟩ := capsValue_fields
  refine ⟨rfl, rfl, rfl, halgs, hbit3, hkey, hdigits, hreserved, fun v hw => ?_⟩
  obtain hw | hw := hw
  · rw [step_of_plainWrite hw (by decide), plainWrite_readOnly v rfl (by decide)]
    rfl
  · rw [step_of_plainWrite hw (by decide), plainWrite_readOnly v rfl (by decide)]
    rfl

/-! ### PHASE -/

/-- What a step does to PHASE, by its turn (R31, R121). -/
inductive PhaseKind (s t : State) : Prop
  /-- A long command is accepted without error. -/
  | starts (i : Instr) (op : LongOp) (hturn : AcceptTurn i s) (hop : longOp i = some op)
      (hready : commandError i s = none) (hphase : t.phase = .busy op)
  /-- The block is IDLE: none was in progress, or it ended, and none began. -/
  | rests (hend : s.phase = .idle ∨ EngineTurn s ∨ ResetTurn s)
      (hnone : ∀ i, AcceptTurn i s → longOp i = none ∨ commandError i s ≠ none)
      (hphase : t.phase = .idle)
  /-- The command in progress goes on. -/
  | goesOn (hbusy : s.phase ≠ .idle) (hengine : ¬EngineTurn s) (hreset : ¬ResetTurn s)
      (hphase : t.phase = s.phase)

theorem phaseKind_of_rest {s t : State} (hcmd : ¬CommandTurn s)
    (hend : s.phase = .idle ∨ EngineTurn s ∨ ResetTurn s) (hphase : t.phase = .idle) :
    PhaseKind s t :=
  .rests hend (fun _ h => absurd (commandTurn_of_acceptTurn h) hcmd) hphase

theorem phaseKind_of_kept {s t : State} (hcmd : ¬CommandTurn s) (hengine : ¬EngineTurn s)
    (hreset : ¬ResetTurn s) (hphase : t.phase = s.phase) : PhaseKind s t := by
  by_cases hidle : s.phase = .idle
  · exact phaseKind_of_rest hcmd (.inl hidle) (hphase.trans hidle)
  · exact .goesOn hidle hengine hreset hphase

theorem phaseKind_of_writeTurn {s t : State} {r : Reg} {v : Word} (h : WriteTurn r v s)
    (hcmd : r ≠ .cmd) (hphase : t.phase = s.phase) : PhaseKind s t :=
  phaseKind_of_kept (not_commandTurn_of_writeTurn h hcmd) (not_engineTurn_of_writeTurn h)
    (not_resetTurn_of_writeTurn h) hphase

theorem phaseKind_of_acceptTurn {s t : State} {i : Instr} (h : AcceptTurn i s)
    (hnone : longOp i = none ∨ commandError i s ≠ none) (hphase : t.phase = s.phase) :
    PhaseKind s t := by
  refine .rests (.inl h.1) (fun j hj => ?_) (hphase.trans h.1)
  obtain rfl := (acceptTurn_iff_of_acceptTurn h).1 hj
  exact hnone

theorem phaseKind_of_step {s t : State} (h : step s = .next t) : PhaseKind s t := by
  cases stepKind_of_step h with
  | waits hturn hidle =>
    exact phaseKind_of_rest (not_commandTurn_of_engineTurn hturn) (.inl hidle) hidle
  | completes op alg hturn hbusy halg =>
    exact phaseKind_of_rest (not_commandTurn_of_engineTurn hturn) (.inr (.inl hturn)) rfl
  | resets hturn =>
    exact phaseKind_of_rest (not_commandTurn_of_resetTurn hturn) (.inr (.inr hturn)) rfl
  | reads r hturn =>
    exact phaseKind_of_kept (not_commandTurn_of_readTurn hturn)
      (not_engineTurn_of_readTurn hturn) (not_resetTurn_of_readTurn hturn) rfl
  | clearsFlags v hturn =>
    exact phaseKind_of_writeTurn hturn (by decide) rfl
  | setsOperand r v hturn hr hidle =>
    obtain ⟨hphase, -⟩ := operandWrite_frame r v { s with pending := s.pending.tail }
    exact phaseKind_of_writeTurn hturn (by rintro rfl; cases hr) hphase
  | ignores r v hturn hr hstatus hcmd =>
    exact phaseKind_of_writeTurn hturn hcmd rfl
  | drops hturn =>
    obtain ⟨hbusy, r, v, -, hw⟩ := hturn
    exact .goesOn hbusy (not_engineTurn_of_writeTurn hw) (not_resetTurn_of_writeTurn hw) rfl
  | nops hturn => exact phaseKind_of_acceptTurn hturn (.inl rfl) rfl
  | clears hturn => exact phaseKind_of_acceptTurn hturn (.inl rfl) rfl
  | starts i op hturn hop hready => exact .starts i op hturn hop hready rfl
  | fails i e hturn herror =>
    exact phaseKind_of_acceptTurn hturn (.inr (by simp [herror])) (raiseError_phase (some i) e _)
  | rejects hturn =>
    exact .rests (.inl hturn.1) (fun i hi => absurd hturn (not_illegalTurn_of_acceptTurn hi))
      hturn.1

/-- A long command accepted without error is in progress afterwards (R31, R120). -/
theorem phase_of_start {s t : State} {i : Instr} {op : LongOp} (h : step s = .next t)
    (hturn : AcceptTurn i s) (hop : longOp i = some op) (hready : commandError i s = none) :
    t.phase = .busy op := by
  cases phaseKind_of_step h with
  | starts j op' hturn' hop' _ hphase =>
    obtain rfl := (acceptTurn_iff_of_acceptTurn hturn).1 hturn'
    obtain rfl : op = op' := Option.some.inj (hop.symm.trans hop')
    exact hphase
  | rests _ hnone =>
    obtain hnone | herror := hnone i hturn
    · cases hop.symm.trans hnone
    · exact absurd hready herror
  | goesOn hbusy => exact absurd hturn.1 hbusy

/-- Settles O16: PHASE is BUSY after a step exactly if a long command began or goes on, and bit 0 of STATUS reads it. -/
theorem busyFollowsItsCommands : Obligations.BusyFollowsItsCommands := by
  unfold Obligations.BusyFollowsItsCommands
  intro s t h
  have hgen (hturn : AcceptTurn .generate s) (hr : KeyedReady s) : t.phase = .busy .generate :=
    phase_of_start h hturn rfl ((keyedReady_iff hturn.1).1 hr)
  have hhmac (hturn : AcceptTurn .hmac s) (hr : KeyedReady s) : t.phase = .busy .hmac :=
    phase_of_start h hturn rfl ((keyedReady_iff hturn.1).1 hr)
  have htrunc (hturn : AcceptTurn .truncate s) (hr : TruncateReady s) :
      t.phase = .busy .truncate :=
    phase_of_start h hturn rfl ((truncateReady_iff hturn.1).1 hr)
  have hon (hbusy : s.phase ≠ .idle) (heng : ¬EngineTurn s) (hreset : ¬ResetTurn s) :
      t.phase = s.phase := by
    cases phaseKind_of_step h with
    | starts i op hturn => exact absurd hturn.1 hbusy
    | rests hend =>
      obtain hidle | hturn | hturn := hend
      · exact absurd hidle hbusy
      · exact absurd hturn heng
      · exact absurd hturn hreset
    | goesOn _ _ _ hphase => exact hphase
  refine ⟨hgen, hhmac, htrunc, hon, ⟨fun hbusy => ?_, ?_⟩, ?_⟩
  · cases phaseKind_of_step h with
    | starts i op hturn hop hready =>
      cases i with
      | generate => exact .inl ⟨hturn, (keyedReady_iff hturn.1).2 hready⟩
      | hmac => exact .inr (.inl ⟨hturn, (keyedReady_iff hturn.1).2 hready⟩)
      | truncate => exact .inr (.inr (.inl ⟨hturn, (truncateReady_iff hturn.1).2 hready⟩))
      | nop => cases hop
      | clear => cases hop
    | rests _ _ hphase => exact absurd hphase hbusy
    | goesOn hs heng hreset => exact .inr (.inr (.inr ⟨hs, heng, hreset⟩))
  · rintro (⟨hturn, hr⟩ | ⟨hturn, hr⟩ | ⟨hturn, hr⟩ | ⟨hs, heng, hreset⟩)
    · simp [hgen hturn hr]
    · simp [hhmac hturn hr]
    · simp [htrunc hturn hr]
    · rwa [hon hs heng hreset]
  · rw [regRead_status, statusWord_busy]
    exact busyFlag_eq_true_iff t

end Sys2Proof.Safety
end

section
/-! The truncation's results: their bounds, their text, and what a step leaves of them (R42-R45, R210-R217). -/

namespace Sys2Proof.Machine
open Sys2Proof.Safety

/-! ### The dynamic binary code -/

/-- With the top bit of its first byte cleared a word is below 2^31 (R212). -/
theorem truncDbc_lt (alg : Alg) (h : List Byte) : (truncDbc alg h).toNat < 2 ^ 31 := by
  rw [truncDbc, be32_toNat]
  have h0 : (byteAt h (truncOffset alg h) &&& 0x7F).toNat ≤ 0x7F := by
    rw [BitVec.toNat_and]
    exact Nat.and_le_right
  have h1 := (byteAt h (truncOffset alg h + 1)).isLt
  have h2 := (byteAt h (truncOffset alg h + 2)).isLt
  have h3 := (byteAt h (truncOffset alg h + 3)).isLt
  omega

theorem truncOffset_lt (alg : Alg) (h : List Byte) : truncOffset alg h < 16 := by
  rw [truncOffset, BitVec.toNat_and]
  exact Nat.lt_succ_of_le Nat.and_le_right

/-- The code is the exact remainder (R214). -/
theorem truncCode_toNat (dbc : Word) (d : Nat) :
    (truncCode dbc d).toNat = dbc.toNat % 10 ^ d := by
  rw [truncCode, BitVec.toNat_ofNat]
  exact Nat.mod_eq_of_lt ((Nat.mod_le _ _).trans_lt dbc.isLt)

theorem getLsbD_31_of_lt {w : Word} (h : w.toNat < 2 ^ 31) : w.getLsbD 31 = false :=
  Nat.testBit_lt_two_pow h

/-! ### Decimal text (R215) -/

theorem asciiDigit_toNat {n : Nat} (h : n < 10) : (asciiDigit n).toNat = 0x30 + n := by
  rw [asciiDigit, BitVec.toNat_ofNat]
  omega

theorem isDigit_asciiDigit {n : Nat} (h : n < 10) : IsDigit (asciiDigit n) := by
  rw [IsDigit, asciiDigit_toNat h]
  omega

theorem decimalValue_append_digit (text : List Byte) {n : Nat} (h : n < 10) :
    decimalValue (text ++ [asciiDigit n]) = 10 * decimalValue text + n := by
  simp [decimalValue, asciiDigit_toNat h]

theorem decimalValue_digit {n : Nat} (h : n < 10) : decimalValue [asciiDigit n] = n := by
  simpa [decimalValue] using decimalValue_append_digit [] h

theorem decimalDigits_isDigit (fuel n : Nat) : ∀ b ∈ decimalDigits fuel n, IsDigit b := by
  induction fuel generalizing n with
  | zero =>
    intro b hb
    rw [List.mem_singleton.1 hb]
    exact isDigit_asciiDigit (Nat.mod_lt n (by decide))
  | succ fuel ih =>
    unfold decimalDigits
    split_ifs with h
    · intro b hb
      rw [List.mem_singleton.1 hb]
      exact isDigit_asciiDigit h
    · intro b hb
      obtain hb | hb := List.mem_append.1 hb
      · exact ih _ b hb
      · rw [List.mem_singleton.1 hb]
        exact isDigit_asciiDigit (Nat.mod_lt n (by decide))

/-- The digits stand for the number when the fuel suffices (R215). -/
theorem decimalValue_decimalDigits {fuel n : Nat} (h : n < 10 ^ (fuel + 1)) :
    decimalValue (decimalDigits fuel n) = n := by
  induction fuel generalizing n with
  | zero =>
    rw [decimalDigits, Nat.mod_eq_of_lt (by simpa using h)]
    exact decimalValue_digit (by simpa using h)
  | succ fuel ih =>
    unfold decimalDigits
    split_ifs with hlt
    · exact decimalValue_digit hlt
    · rw [decimalValue_append_digit _ (Nat.mod_lt n (by decide)), ih (by omega)]
      omega

/-- A number below 10^d has at most d digits (R215). -/
theorem decimalDigits_length_le {fuel n d : Nat} (h : n < 10 ^ d) (hd : 1 ≤ d) :
    (decimalDigits fuel n).length ≤ d := by
  induction fuel generalizing n d with
  | zero => exact hd
  | succ fuel ih =>
    unfold decimalDigits
    split_ifs with hlt
    · exact hd
    · obtain ⟨d, rfl⟩ := Nat.exists_eq_add_of_le' hd
      have hd' : 1 ≤ d := by
        by_contra h0
        obtain rfl : d = 0 := by omega
        omega
      have := ih (n := n / 10) (d := d) (by omega) hd'
      simp only [List.length_append, List.length_singleton]
      omega

theorem decimalValue_replicate_zero (k : Nat) (text : List Byte) :
    decimalValue (List.replicate k 0x30 ++ text) = decimalValue text := by
  induction k with
  | zero => rfl
  | succ k ih =>
    rw [List.replicate_succ, List.cons_append]
    exact ih


theorem renderCode_length {code : Word} {d : Nat} (h : code.toNat < 10 ^ d) (hd : 1 ≤ d) :
    (renderCode code d).length = d := by
  have := decimalDigits_length_le (fuel := 9) h hd
  simp only [renderCode, digitsOf, List.length_append, List.length_replicate]
  omega

theorem renderCode_isDigit (code : Word) (d : Nat) : ∀ b ∈ renderCode code d, IsDigit b := by
  intro b hb
  obtain hb | hb := List.mem_append.1 hb
  · rw [List.eq_of_mem_replicate hb]
    decide
  · exact decimalDigits_isDigit _ _ b hb

theorem decimalValue_renderCode (code : Word) (d : Nat) :
    decimalValue (renderCode code d) = code.toNat := by
  rw [renderCode, decimalValue_replicate_zero, digitsOf, decimalValue_decimalDigits]
  have := code.isLt
  omega

/-- A zero-filled buffer begins with the string it was filled with (R129). -/
theorem zeroFilled_take {n : Nat} {h : List Byte} (hn : h.length ≤ n) :
    (zeroFilled n h.length h).toList.take h.length = h := by
  apply List.ext_getElem
  · simp [hn]
  · intro i hi hi'
    simp [zeroFilled_getElem, byteAt, hi']
end Sys2Proof.Machine

namespace Sys2Proof.Safety
open Sys2Proof.Machine

/-! ### The results after a step -/

/-- The results are those of one truncation (R129). -/
abbrev HoldsTruncation (alg : Alg) (d : Nat) (h : List Byte) (s : State) : Prop :=
  s.code = truncCode (truncDbc alg h) d ∧ s.dbc = truncDbc alg h
    ∧ s.info = infoWord alg d (truncOffset alg h)
    ∧ s.asc = zeroFilled 16 d (renderCode (truncCode (truncDbc alg h) d) d)

/-- What a completion leaves in the results: the truncation of a digest, or the empty result after HMAC (R121). -/
theorem writeOutputs_result (op : LongOp) (alg : Alg) (s : State) :
    EmptyResult (writeOutputs op alg s)
      ∨ ∃ h, HoldsTruncation alg (effDigits s) h (writeOutputs op alg s) := by
  cases op with
  | generate => exact .inr ⟨engineHmac alg s, rfl, rfl, rfl, rfl⟩
  | hmac => exact .inl ⟨rfl, rfl, rfl, rfl⟩
  | truncate => exact .inr ⟨digestBytes alg s, rfl, rfl, rfl, rfl⟩

/-- An error completion keeps the results or empties them (R232). -/
theorem raiseError_result (cmd : Option Instr) (e : ErrCode) (s : State) :
    SameResult s (raiseError cmd e s) ∨ EmptyResult (raiseError cmd e s) := by
  cases cmd with
  | none => exact .inl ⟨rfl, rfl, rfl, rfl⟩
  | some i =>
    cases i with
    | nop => exact .inl ⟨rfl, rfl, rfl, rfl⟩
    | clear => exact .inl ⟨rfl, rfl, rfl, rfl⟩
    | generate => exact .inr ⟨rfl, rfl, rfl, rfl⟩
    | hmac => exact .inr ⟨rfl, rfl, rfl, rfl⟩
    | truncate => exact .inr ⟨rfl, rfl, rfl, rfl⟩

/-- A step keeps the results, empties them, or writes those of one truncation (R129, R130). -/
theorem result_after_step {s t : State} (h : step s = .next t) :
    SameResult s t ∨ EmptyResult t
      ∨ ∃ alg d digest, 1 ≤ d ∧ d < 16 ∧ HoldsTruncation alg d digest t := by
  have hsame : SameResult s s := ⟨rfl, rfl, rfl, rfl⟩
  cases stepKind_of_step h with
  | waits hturn hidle => exact .inl hsame
  | completes op alg hturn hbusy halg =>
    obtain ⟨hpos, hlt⟩ := effDigits_bounds { s with pending := s.pending.tail }
    obtain hempty | ⟨digest, hdigest⟩ :=
      writeOutputs_result op alg { s with pending := s.pending.tail }
    · exact .inr (.inl hempty)
    · exact .inr (.inr ⟨alg, _, digest, hpos, hlt, hdigest⟩)
  | resets hturn => exact .inr (.inl ⟨rfl, rfl, rfl, rfl⟩)
  | reads r hturn => exact .inl hsame
  | clearsFlags v hturn => exact .inl hsame
  | setsOperand r v hturn hr hidle =>
    obtain ⟨-, -, -, -, -, hcode, hdbc, hinfo, hasc, -⟩ :=
      operandWrite_frame r v { s with pending := s.pending.tail }
    exact .inl ⟨hcode, hdbc, hinfo, hasc⟩
  | ignores r v hturn hr hstatus hcmd => exact .inl hsame
  | drops hturn => exact .inl hsame
  | nops hturn => exact .inl hsame
  | clears hturn => exact .inr (.inl ⟨rfl, rfl, rfl, rfl⟩)
  | starts i op hturn hop hready => exact .inl hsame
  | fails i e hturn herror =>
    exact (raiseError_result (some i) e _).imp_right .inl
  | rejects hturn => exact .inl hsame

/-- A write of an operand register keeps CTRL or sets its writable bits (R76). -/
theorem operandWrite_ctrl (r : Reg) (v : Word) (s : State) :
    (operandWrite r v s).ctrl = s.ctrl ∨ ∃ v', (operandWrite r v s).ctrl = v' &&& ctrlMask := by
  cases r with
  | ctrl => exact .inr ⟨v, rfl⟩
  | _ => exact .inl rfl

/-- A step keeps CTRL, clears it, or sets its writable bits (R24, R76). -/
theorem ctrl_after_step {s t : State} (h : step s = .next t) :
    t.ctrl = s.ctrl ∨ ∃ v, t.ctrl = v &&& ctrlMask := by
  cases stepKind_of_step h with
  | waits hturn hidle => exact .inl rfl
  | completes op alg hturn hbusy halg =>
    obtain ⟨-, hctrl, -⟩ := writeOutputs_frame op alg { s with pending := s.pending.tail }
    exact .inl hctrl
  | resets hturn => exact .inr ⟨0, rfl⟩
  | reads r hturn => exact .inl rfl
  | clearsFlags v hturn => exact .inl rfl
  | setsOperand r v hturn hr hidle => exact operandWrite_ctrl r v _
  | ignores r v hturn hr hstatus hcmd => exact .inl rfl
  | drops hturn => exact .inl rfl
  | nops hturn => exact .inl rfl
  | clears hturn => exact .inl rfl
  | starts i op hturn hop hready => exact .inl rfl
  | fails i e hturn herror => exact .inl (raiseError_ctrl (some i) e _)
  | rejects hturn => exact .inl rfl

/-- Settles O40: CTRL takes its writable bits alone, and the results are kept, emptied or those of a truncation, whose code and dynamic binary code are below 2^31. -/
theorem reservedBitsStayZero : Obligations.ReservedBitsStayZero := by
  unfold Obligations.ReservedBitsStayZero
  intro s t hinv h
  obtain ⟨hctrl, hinfo, hcode, hdbc⟩ := hinv
  refine ⟨?_, ?_⟩
  · obtain hc | ⟨v, hc⟩ := ctrl_after_step h
    · rwa [hc]
    · have hmask : ctrlMask &&& 0xFFFFFC0C = 0 := by decide
      rw [hc, BitVec.and_assoc, hmask]
      exact BitVec.and_zero
  · obtain ⟨hc, hd, hi, -⟩ | ⟨hc, hd, hi, -⟩ | ⟨alg, d, digest, hpos, hlt, hc, hd, hi, -⟩ :=
      result_after_step h
    · rw [hc, hd, hi]
      exact ⟨hinfo, hcode, hdbc⟩
    · rw [hc, hd, hi]
      decide
    · rw [hc, hd, hi]
      obtain ⟨-, -, -, -, hreserved⟩ := infoWord_fields alg d _ hlt (truncOffset_lt alg digest)
      have hbound := truncDbc_lt alg digest
      refine ⟨hreserved, getLsbD_31_of_lt ?_, getLsbD_31_of_lt hbound⟩
      rw [truncCode_toNat]
      exact (Nat.mod_le _ _).trans_lt hbound

theorem resultInv_congr {s t : State} (h : SameResult s t) : ResultInv t ↔ ResultInv s := by
  obtain ⟨hcode, hdbc, hinfo, hasc⟩ := h
  cases s
  cases t
  subst hcode hdbc hinfo hasc
  exact Iff.rfl

theorem resultInv_of_emptyResult {s : State} (h : EmptyResult s) : ResultInv s := by
  have hv : infoValid s = false := by
    obtain ⟨-, -, hinfo, -⟩ := h
    rw [infoValid, hinfo]
    rfl
  exact ⟨fun _ => h, fun hyes => absurd hv (by simp [hyes])⟩

/-- A truncation's results describe it completely (R42-R45, R214, R215). -/
theorem resultInv_of_holdsTruncation {alg : Alg} {d : Nat} {digest : List Byte} {s : State}
    (hpos : 1 ≤ d) (hlt : d < 16) (h : HoldsTruncation alg d digest s) : ResultInv s := by
  obtain ⟨hcode, hdbc, hinfo, hasc⟩ := h
  obtain ⟨hvalid, halg, hdigits, -⟩ := infoWord_fields alg d _ hlt (truncOffset_lt alg digest)
  have hv : infoValid s = true := by rw [infoValid, hinfo, hvalid]
  have ha : infoAlg s = algCode alg := by rw [infoAlg, hinfo, halg]
  have hd : (infoDigits s).toNat = d := by rw [infoDigits, hinfo, hdigits]
  have hlen : (renderCode s.code d).length = d := by
    refine renderCode_length ?_ hpos
    rw [hcode, truncCode_toNat]
    exact Nat.mod_lt _ (Nat.pow_pos (by decide))
  rw [← hcode] at hasc
  refine ⟨fun hno => absurd hv (by simp [hno]), fun _ => ?_⟩
  rw [ha, hd]
  refine ⟨by cases alg <;> decide, hpos, by rw [hcode, hdbc, truncCode_toNat], fun i => ?_, ?_⟩
  · have hi : s.asc[i] = if i.val < d then byteAt (renderCode s.code d) i.val else 0 := by
      rw [hasc]
      exact zeroFilled_getElem 16 d _ i.val i.isLt
    rw [hi]
    split
    · rw [byteAt_eq_getElem _ _ (by omega)]
      exact renderCode_isDigit _ _ _ (List.getElem_mem _)
    · rfl
  · have htake := zeroFilled_take (n := 16) (h := renderCode s.code d) (by omega)
    rw [hlen] at htake
    rw [hasc, htake, decimalValue_renderCode]

/-- Settles O43: a step keeps the results, empties them, or writes one truncation's, and each of these is consistent. -/
theorem resultsStayOneTruncation : Obligations.ResultsStayOneTruncation := by
  unfold Obligations.ResultsStayOneTruncation
  intro s t hinv h
  obtain hsame | hempty | ⟨alg, d, digest, hpos, hlt, hholds⟩ := result_after_step h
  · exact (resultInv_congr hsame).2 hinv
  · exact resultInv_of_emptyResult hempty
  · exact resultInv_of_holdsTruncation hpos hlt hholds

end Sys2Proof.Safety
end

section
/-! Noninterference of the interrupt enables (R27, R28): every operation commutes with erasing them. -/

namespace Sys2Proof.Safety
open Sys2Proof.Machine

/-! ### What erasing the enables leaves -/

@[simp] theorem eraseEnables_idem (s : State) :
    eraseEnables (eraseEnables s) = eraseEnables s := by
  simp [eraseEnables, BitVec.and_assoc]

@[simp] theorem busyFlag_eraseEnables (s : State) : busyFlag (eraseEnables s) = busyFlag s := rfl

@[simp] theorem algField_eraseEnables (s : State) : algField (eraseEnables s) = algField s := by
  have hmask : (0xFFFFFCFF : Word).extractLsb' 0 2 = BitVec.allOnes 2 := by decide
  rw [algField, eraseEnables, BitVec.extractLsb'_and, hmask, BitVec.and_allOnes, algField]

@[simp] theorem digitsField_eraseEnables (s : State) :
    digitsField (eraseEnables s) = digitsField s := by
  have hmask : (0xFFFFFCFF : Word).extractLsb' 4 4 = BitVec.allOnes 4 := by decide
  rw [digitsField, eraseEnables, BitVec.extractLsb'_and, hmask, BitVec.and_allOnes, digitsField]

@[simp] theorem algOperand_eraseEnables (s : State) :
    algOperand (eraseEnables s) = algOperand s := by
  simp only [algOperand, algField_eraseEnables]

@[simp] theorem effDigits_eraseEnables (s : State) : effDigits (eraseEnables s) = effDigits s := by
  simp only [effDigits, digitsField_eraseEnables]

theorem commandError_eraseEnables (i : Instr) (s : State) :
    commandError i (eraseEnables s) = commandError i s := by
  have hkey : (eraseEnables s).keyLen = s.keyLen := rfl
  cases i <;> simp only [commandError, keyedCommandError, truncateError,
    algOperand_eraseEnables, hkey]

/-! ### Operations -/

theorem writeOutputs_eraseEnables (op : LongOp) (alg : Alg) (s : State) :
    writeOutputs op alg (eraseEnables s) = eraseEnables (writeOutputs op alg s) := by
  cases op <;> simp only [writeOutputs, engineTruncate, effDigits_eraseEnables] <;> rfl

theorem engineStep_eraseEnables (s : State) :
    engineStep (eraseEnables s) = mapNext eraseEnables (engineStep s) := by
  unfold engineStep
  rw [algOperand_eraseEnables]
  have hphase : (eraseEnables s).phase = s.phase := rfl
  rw [hphase]
  cases s.phase with
  | idle => rfl
  | busy op =>
    cases algOperand s with
    | none => rfl
    | some alg =>
      simp only [writeOutputs_eraseEnables]
      rfl

theorem raiseError_eraseEnables (cmd : Option Instr) (e : ErrCode) (s : State) :
    raiseError cmd e (eraseEnables s) = eraseEnables (raiseError cmd e s) := by
  cases cmd with
  | none => rfl
  | some i => cases i <;> rfl

theorem acceptLong_eraseEnables (cmd : Instr) (op : LongOp) (error : Option ErrCode) (s : State) :
    acceptLong cmd op error (eraseEnables s) = eraseEnables (acceptLong cmd op error s) := by
  cases error with
  | none => rfl
  | some e => exact raiseError_eraseEnables (some cmd) e (startRecord s)

theorem acceptedState_eraseEnables (i : Instr) (s : State) :
    acceptedState i (eraseEnables s) = eraseEnables (acceptedState i s) := by
  have herror := commandError_eraseEnables i s
  cases i with
  | nop => rfl
  | clear => rfl
  | _ =>
    simp only [commandError] at herror
    simp only [acceptedState, herror]
    exact acceptLong_eraseEnables _ _ _ s

theorem acceptedWordState_eraseEnables (w : Word) (s : State) :
    acceptedWordState w (eraseEnables s) = eraseEnables (acceptedWordState w s) := by
  unfold acceptedWordState
  cases decodeCommand w with
  | ok i => exact acceptedState_eraseEnables i s
  | error _ => rfl

theorem commandWrite_eraseEnables (w : Word) (s : State) :
    commandWrite w (eraseEnables s) = mapNext eraseEnables (commandWrite w s) := by
  by_cases hidle : s.phase = .idle
  · rw [commandWrite_idle w hidle, commandWrite_idle (s := eraseEnables s) w hidle,
      acceptedWordState_eraseEnables]
    rfl
  · rw [commandWrite_busy w hidle, commandWrite_busy (s := eraseEnables s) w hidle]
    rfl

/-- A write of CTRL sets the enables; no other operand write touches them. -/
theorem operandWrite_eraseEnables {r : Reg} (v : Word) (s : State) (hr : r ≠ .ctrl) :
    operandWrite r v (eraseEnables s) = eraseEnables (operandWrite r v s) := by
  cases r with
  | ctrl => exact absurd rfl hr
  | _ => rfl

theorem plainWrite_eraseEnables (r : Reg) (v : Word) (s : State) :
    eraseEnables (plainWrite r v (eraseEnables s)) = eraseEnables (plainWrite r v s) := by
  unfold plainWrite
  rw [busyFlag_eraseEnables]
  split_ifs
  · exact eraseEnables_idem (statusWrite v s)
  · exact eraseEnables_idem (dropWrite s)
  · by_cases hr : r = .ctrl
    · subst hr
      rfl
    · rw [operandWrite_eraseEnables v s hr, eraseEnables_idem]
  · exact eraseEnables_idem s

/-! ### The step -/

theorem mapNext_answer (r : Response) (o : Host.Outcome State Fault Refusal) :
    mapNext eraseEnables (answer r o) = mapNext eraseEnables o := by
  cases o <;> rfl

theorem mapNext_eraseEnables_idem (o : Host.Outcome State Fault Refusal) :
    mapNext eraseEnables (mapNext eraseEnables o) = mapNext eraseEnables o := by
  cases o <;> simp [mapNext]

theorem regWrite_eraseEnables (r : Reg) (v : Word) (s : State) :
    mapNext eraseEnables (regWrite r v (eraseEnables s))
      = mapNext eraseEnables (regWrite r v s) := by
  unfold regWrite
  split_ifs
  · rw [commandWrite_eraseEnables, mapNext_eraseEnables_idem]
  · exact congrArg Host.Outcome.next (plainWrite_eraseEnables r v s)

theorem runEvent_eraseEnables (e : Event) (s : State) :
    mapNext eraseEnables (runEvent e (eraseEnables s))
      = mapNext eraseEnables (runEvent e s) := by
  cases e with
  | read off size =>
    simp only [runEvent, busRead]
    cases decodeAccess off size with
    | outside => rfl
    | busError => rfl
    | reg r => exact congrArg Host.Outcome.next (eraseEnables_idem s)
  | write off size v =>
    simp only [runEvent, busWrite]
    cases decodeAccess off size with
    | outside => rfl
    | busError => rfl
    | reg r =>
      simp only [mapNext_answer, regWrite_eraseEnables]
  | engine =>
    rw [runEvent, engineStep_eraseEnables, mapNext_eraseEnables_idem, runEvent]
  | reset => rfl

/-- The step sees the enables and the answers given only in what it answers: erased before, they make no difference after. -/
theorem step_eraseEnables (s : State) :
    mapNext eraseEnables (step (eraseEnables s)) = mapNext eraseEnables (step s) := by
  have hpending : (eraseEnables s).pending = s.pending := rfl
  unfold step stepNext
  rw [hpending]
  cases s.pending with
  | nil => exact runEvent_eraseEnables .engine s
  | cons e rest => exact runEvent_eraseEnables e { s with pending := rest }

/-! ### The answers -/

/-- STATUS reads the same but for IRQ (R36). -/
theorem statusWord_eraseEnables (s : State) :
    statusWord (eraseEnables s) &&& 0xFFFFFEFF = statusWord s &&& 0xFFFFFEFF := by
  have hmask (x : Word) (b : Bool) : (x ||| flagBit b 8) &&& 0xFFFFFEFF = x &&& 0xFFFFFEFF := by
    rw [BitVec.and_or_distrib_right]
    cases b <;> simp [flagBit]
  rw [statusWord, statusWord, hmask, hmask]
  rfl

/-- No register but CTRL and STATUS shows the enables (R27, R28). -/
theorem regRead_eraseEnables {r : Reg} (s : State) (hctrl : r ≠ .ctrl) (hstatus : r ≠ .status) :
    regRead r (eraseEnables s) = regRead r s := by
  cases r with
  | ctrl => exact absurd rfl hctrl
  | status => exact absurd rfl hstatus
  | _ => rfl

/-- The answers a step adds where it has a next state: a read's value, a write's `ok` (R70). -/
def stepAnswers (s : State) : List Response :=
  match s.pending with
  | .read off size :: _ =>
    match decodeAccess off size with
    | .reg r => [.data (regRead r s)]
    | _ => []
  | .write _ _ _ :: _ => [.ok]
  | _ => []

theorem stepAnswers_of_engineTurn {s : State} (h : EngineTurn s) : stepAnswers s = [] := by
  obtain hp | ⟨rest, hp⟩ := h <;> rw [stepAnswers, hp]

theorem stepAnswers_of_resetTurn {s : State} (h : ResetTurn s) : stepAnswers s = [] := by
  obtain ⟨rest, hp⟩ := h
  rw [stepAnswers, hp]

theorem stepAnswers_of_readTurn {s : State} {r : Reg} (h : ReadTurn r s) :
    stepAnswers s = [.data (regRead r s)] := by
  obtain ⟨rest, hp⟩ := h
  simp only [stepAnswers, hp, decodeAccess_regOffset]

theorem stepAnswers_of_writeTurn {s : State} {r : Reg} {v : Word} (h : WriteTurn r v s) :
    stepAnswers s = [.ok] := by
  obtain ⟨rest, hp⟩ := h
  rw [stepAnswers, hp]

theorem responses_after_step {s t : State} (h : step s = .next t) :
    t.responses = s.responses ++ stepAnswers s := by
  cases stepKind_of_step h with
  | waits hturn hidle => rw [stepAnswers_of_engineTurn hturn, List.append_nil]
  | completes op alg hturn hbusy halg =>
    obtain ⟨-, -, -, -, -, -, -, -, -, -, -, hresp⟩ :=
      writeOutputs_frame op alg { s with pending := s.pending.tail }
    rw [stepAnswers_of_engineTurn hturn, List.append_nil]
    exact hresp
  | resets hturn => rw [stepAnswers_of_resetTurn hturn, List.append_nil, resetBlock_responses]
  | reads r hturn =>
    rw [stepAnswers_of_readTurn hturn]
    rfl
  | clearsFlags v hturn =>
    rw [stepAnswers_of_writeTurn hturn]
    rfl
  | setsOperand r v hturn hr hidle =>
    obtain ⟨-, -, -, -, -, -, -, -, -, -, hresp⟩ :=
      operandWrite_frame r v { s with pending := s.pending.tail }
    rw [stepAnswers_of_writeTurn hturn, respond_responses, hresp]
  | ignores r v hturn hr hstatus hcmd =>
    rw [stepAnswers_of_writeTurn hturn]
    rfl
  | drops hturn =>
    obtain ⟨-, r, v, -, hw⟩ := hturn
    rw [stepAnswers_of_writeTurn hw]
    rfl
  | nops hturn =>
    rw [stepAnswers_of_writeTurn hturn.2]
    rfl
  | clears hturn =>
    rw [stepAnswers_of_writeTurn hturn.2]
    rfl
  | starts i op hturn hop hready =>
    rw [stepAnswers_of_writeTurn hturn.2]
    rfl
  | fails i e hturn herror =>
    rw [stepAnswers_of_writeTurn hturn.2, respond_responses, raiseError_responses,
      startRecord_responses]
  | rejects hturn =>
    obtain ⟨-, w, hw, -⟩ := hturn
    rw [stepAnswers_of_writeTurn hw]
    rfl

/-- Unless it reads CTRL or STATUS, a step answers alike whatever the enables are. -/
theorem stepAnswers_eraseEnables {s : State} (hctrl : ¬ReadTurn .ctrl s)
    (hstatus : ¬ReadTurn .status s) : stepAnswers (eraseEnables s) = stepAnswers s := by
  have hpending : (eraseEnables s).pending = s.pending := rfl
  rw [stepAnswers, hpending, stepAnswers]
  split
  next off size rest hp =>
    split
    next r hr =>
      obtain ⟨rfl, rfl⟩ := (decodeAccess_eq_reg_iff _ _ _).1 hr
      have hread : ReadTurn r s := ⟨rest, hp⟩
      rw [regRead_eraseEnables s (by rintro rfl; exact hctrl hread)
        (by rintro rfl; exact hstatus hread)]
    · rfl
  · rfl
  · rfl

/-- Settles O15: every operation commutes with erasing the enables, and no answer but of CTRL and STATUS shows them. -/
theorem interruptEnablesHaveNoOtherEffect : Obligations.InterruptEnablesHaveNoOtherEffect := by
  unfold Obligations.InterruptEnablesHaveNoOtherEffect
  intro s s' hsame
  have hpending := congrArg State.pending hsame
  have hctrl := congrArg State.ctrl hsame
  change s.pending = s'.pending at hpending
  refine ⟨?_, fun t t' hnoCtrl hnoStatus ht ht' => ⟨stepAnswers s, responses_after_step ht, ?_⟩,
    hctrl, ?_⟩
  · rw [← step_eraseEnables s, hsame, step_eraseEnables s']
  · have hanswers : stepAnswers s = stepAnswers s' := by
      rw [← stepAnswers_eraseEnables hnoCtrl hnoStatus, hsame]
      rw [ReadTurn, hpending] at hnoCtrl hnoStatus
      exact stepAnswers_eraseEnables hnoCtrl hnoStatus
    rw [hanswers]
    exact responses_after_step ht'
  · rw [regRead_status, regRead_status, ← statusWord_eraseEnables s, hsame,
      statusWord_eraseEnables s']

end Sys2Proof.Safety
end

section
/-! Bus transactions: what the window decodes (R70, R72, R74), and where a step stops (R121, R156, R293). -/

namespace Sys2Proof.Machine

/-! ### Decoding an access -/

theorem decodeAccess_eq_outside_iff (off : Int) (size : Nat) :
    decodeAccess off size = .outside ↔ off < 0 ∨ 0x200 ≤ off := by
  unfold decodeAccess Config.windowBytes
  split_ifs with hwin hsize
  · exact iff_of_true rfl hwin
  · exact iff_of_false nofun hwin
  · refine iff_of_false ?_ hwin
    split <;> nofun

theorem singleRegAt_eq_none_iff {n : Nat} (hn : n < 0x040) (h4 : n % 4 = 0) :
    singleRegAt n = none ↔ 0x02C ≤ n := by
  have hword : ∀ k < 0x10, singleRegAt (4 * k) = none ↔ 0x02C ≤ 4 * k := by decide
  obtain ⟨k, rfl⟩ := Nat.dvd_of_mod_eq_zero h4
  exact hword k (by omega)

/-- The aligned offsets of the window without a register are the reserved ones (R74, R75). -/
theorem regAt_eq_none_iff {n : Nat} (hn : n < 0x200) (h4 : n % 4 = 0) :
    regAt n = none ↔ reservedOffset n = true := by
  unfold regAt reservedOffset
  rw [decide_eq_true_iff]
  split_ifs with hsingle
  · rw [singleRegAt_eq_none_iff hsingle h4]
    omega
  all_goals
    simp only [true_iff, false_iff]
    omega

/-- Inside the window an access is a BusError exactly for a wrong size, a misaligned address or a reserved offset (R72, R74). -/
theorem decodeAccess_eq_busError_iff {off : Int} (size : Nat) (h0 : 0 ≤ off) (h : off < 0x200) :
    decodeAccess off size = .busError
      ↔ size ≠ 4 ∨ off % 4 ≠ 0 ∨ reservedOffset off = true := by
  obtain ⟨n, rfl⟩ := Int.eq_ofNat_of_zero_le h0
  unfold decodeAccess Config.windowBytes
  rw [if_neg (by omega), ← or_assoc, Int.toNat_natCast]
  split_ifs with hsize
  · exact iff_of_true rfl (.inl hsize)
  · rw [or_iff_right hsize, ← regAt_eq_none_iff (by omega) (by omega)]
    cases regAt n <;> simp

/-- An access reaches a register exactly if the host may make it (R72, R74, R293). -/
theorem exists_decodeAccess_eq_reg_iff (off : Int) (size : Nat) :
    (∃ r, decodeAccess off size = .reg r)
      ↔ (inWindow off && sizedAndAligned off size && !reservedOffset off) = true := by
  have hreg : (∃ r, decodeAccess off size = .reg r)
      ↔ decodeAccess off size ≠ .outside ∧ decodeAccess off size ≠ .busError := by
    cases decodeAccess off size <;> simp
  rw [hreg, ne_eq, decodeAccess_eq_outside_iff, inWindow, Config.windowBytes, Nat.cast_ofNat]
  by_cases hwin : 0 ≤ off ∧ off < 0x200
  · obtain ⟨h0, hlt⟩ := hwin
    rw [ne_eq, decodeAccess_eq_busError_iff size h0 hlt, sizedAndAligned]
    simp [h0, hlt, and_assoc]
  · rw [decide_eq_false hwin]
    simp only [Bool.false_and, Bool.false_eq_true, iff_false]
    omega

/-! ### What a transaction answers -/

theorem regWrite_next (r : Reg) (v : Word) (s : State) : ∃ t, regWrite r v s = .next t := by
  unfold regWrite
  split_ifs
  · by_cases hidle : s.phase = .idle
    · exact ⟨_, commandWrite_idle v hidle⟩
    · exact ⟨_, commandWrite_busy v hidle⟩
  · exact ⟨_, rfl⟩

theorem bus_outside {off : Int} {size : Nat} (h : decodeAccess off size = .outside) (v : Word)
    (s : State) :
    busRead off size s = .refused .outsideWindow
      ∧ busWrite off size v s = .refused .outsideWindow := by
  simp only [busRead, busWrite, h, and_self]

theorem bus_busError {off : Int} {size : Nat} (h : decodeAccess off size = .busError) (v : Word)
    (s : State) :
    busRead off size s = .fault .busError ∧ busWrite off size v s = .fault .busError := by
  simp only [busRead, busWrite, h, and_self]

theorem bus_reg {off : Int} {size : Nat} {r : Reg} (h : decodeAccess off size = .reg r) (v : Word)
    (s : State) :
    (∃ t, busRead off size s = .next t) ∧ ∃ t, busWrite off size v s = .next t := by
  obtain ⟨t, ht⟩ := regWrite_next r v s
  simp only [busRead, busWrite, h, ht]
  exact ⟨⟨_, rfl⟩, ⟨_, rfl⟩⟩

/-! ### BASE (R6, R70, R84) -/

theorem addrOffset_base_add (off : Nat) : addrOffset (Config.base + off) = off := by
  unfold addrOffset
  omega

/-- BASE is a multiple of the window size, so it keeps the alignment (R84). -/
theorem addrOffset_emod_four (addr : Nat) : addrOffset addr % 4 = (addr % 4 : Nat) := by
  unfold addrOffset Config.base Config.windowBytes
  omega

end Sys2Proof.Machine

namespace Sys2Proof.Safety
open Sys2Proof.Machine

/-! ### What an event answers -/

theorem step_of_pending_cons {s : State} {e : Event} {rest : List Event}
    (h : s.pending = e :: rest) : step s = runEvent e { s with pending := rest } := by
  simp only [step, stepNext, h]

/-- The acceptance checks keep ALG = 3 from the engine (R156), so its step always answers. -/
theorem engineStep_next {s : State} (hinv : EngineInv s) : ∃ t, engineStep s = .next t := by
  by_cases hidle : s.phase = .idle
  · exact ⟨s, engineStep_idle hidle⟩
  · obtain ⟨halg, -⟩ := hinv hidle
    obtain ⟨t, ht, -⟩ := engineStep_completes hidle halg
    exact ⟨t, ht⟩

theorem runEvent_of_wellFormed {s : State} (hinv : EngineInv s) {e : Event}
    (h : e.wellFormed = true) : ∃ t, runEvent e s = .next t := by
  cases e with
  | read off size =>
    obtain ⟨r, hr⟩ := (exists_decodeAccess_eq_reg_iff off size).2 h
    exact (bus_reg hr 0 s).1
  | write off size v =>
    obtain ⟨r, hr⟩ := (exists_decodeAccess_eq_reg_iff off size).2 h
    exact (bus_reg hr v s).2
  | engine => exact engineStep_next hinv
  | reset => exact ⟨_, rfl⟩

theorem decodeAccess_of_illFormed {off : Int} {size : Nat}
    (h : (inWindow off && sizedAndAligned off size && !reservedOffset off) = false) :
    decodeAccess off size = .busError ∨ decodeAccess off size = .outside := by
  cases hd : decodeAccess off size with
  | outside => exact .inr rfl
  | busError => exact .inl rfl
  | reg r => simp [(exists_decodeAccess_eq_reg_iff off size).1 ⟨r, hd⟩] at h

theorem runEvent_of_illFormed (s : State) {e : Event} (h : e.wellFormed = false) :
    runEvent e s = .fault .busError ∨ runEvent e s = .refused .outsideWindow := by
  cases e with
  | read off size =>
    exact (decodeAccess_of_illFormed h).imp (fun hd => (bus_busError hd 0 s).1)
      fun hd => (bus_outside hd 0 s).1
  | write off size v =>
    exact (decodeAccess_of_illFormed h).imp (fun hd => (bus_busError hd v s).2)
      fun hd => (bus_outside hd v s).2
  | engine => cases h
  | reset => cases h

/-- Settles O5: the aligned offsets without a register are exactly the reserved ones, and a transaction that reaches a register is answered. -/
theorem busErrorExactlyWhereTheMapSays : Obligations.BusErrorExactlyWhereTheMapSays := by
  unfold Obligations.BusErrorExactlyWhereTheMapSays
  intro s off size v h0 hlt
  have hbus := decodeAccess_eq_busError_iff size h0 hlt
  rw [reservedOffset, decide_eq_true_iff] at hbus
  split_ifs with hbad
  · exact bus_busError (hbus.2 hbad) v s
  · cases hd : decodeAccess off size with
    | outside =>
      have := (decodeAccess_eq_outside_iff off size).1 hd
      omega
    | busError => exact absurd (hbus.1 hd) hbad
    | reg r => exact bus_reg hd v s

/-- Settles O6: a transaction is decoded by its offset from BASE alone, and BASE is a multiple of 4. -/
theorem placementOnlyShiftsTheWindow : Obligations.PlacementOnlyShiftsTheWindow := by
  unfold Obligations.PlacementOnlyShiftsTheWindow
  refine ⟨fun s off size v => ?_, fun addr => ?_, fun s addr size v haddr => ?_⟩
  · rw [memRead, memWrite, addrOffset_base_add]
    exact ⟨rfl, rfl⟩
  · rw [addrOffset_emod_four]
    omega
  · refine bus_outside ((decodeAccess_eq_outside_iff _ size).2 ?_) v s
    unfold addrOffset
    omega

/-- Settles O38: an event stops the block exactly if its access reaches no register, and the engine invariant rules out the engine's one fault. -/
theorem stepStopsOnlyAtIllFormedTransactions :
    Obligations.StepStopsOnlyAtIllFormedTransactions := by
  unfold Obligations.StepStopsOnlyAtIllFormedTransactions
  intro s hinv
  refine ⟨fun hwf => ?_, fun e rest hp hill => ?_⟩
  · cases hp : s.pending with
    | nil =>
      rw [step_of_pending_nil hp]
      exact engineStep_next hinv
    | cons e rest =>
      rw [step_of_pending_cons hp]
      exact runEvent_of_wellFormed (s := { s with pending := rest }) hinv (hwf e rest hp)
  · rw [step_of_pending_cons hp]
    exact runEvent_of_illFormed _ hill

end Sys2Proof.Safety
end

section
/-! Accepted accesses of a register: what a read gives (R75), and what a write of an operand register or of STATUS sets and leaves (R76, R77, R78). -/

namespace Sys2Proof.Machine

/-! ### Words of the buffers (R40) -/

theorem be32_wordByte (v : Word) :
    be32 (wordByte v 0) (wordByte v 1) (wordByte v 2) (wordByte v 3) = v := by
  apply BitVec.eq_of_toNat_eq
  rw [be32_toNat]
  simp only [wordByte, BitVec.extractLsb'_toNat, Nat.shiftRight_eq_div_pow]
  omega

theorem bufferWord_eq_getElem {n : Nat} (buf : Vector Byte n) (j : Nat) (h : 4 * j + 3 < n) :
    bufferWord buf j = be32 buf[4 * j] buf[4 * j + 1] buf[4 * j + 2] buf[4 * j + 3] := by
  rw [bufferWord, byteAt_vector buf _ (by omega), byteAt_vector buf _ (by omega),
    byteAt_vector buf _ (by omega), byteAt_vector buf _ h]

theorem bufferWord_setBufferWord_same {n : Nat} (buf : Vector Byte n) (j : Nat) (v : Word)
    (h : 4 * j + 3 < n) : bufferWord (setBufferWord buf j v) j = v := by
  have hdiv (b : Nat) (hb : b < 4) : (4 * j + b) / 4 = j := by omega
  have hmod (b : Nat) (hb : b < 4) : (4 * j + b) % 4 = b := by omega
  rw [bufferWord_eq_getElem _ _ h]
  simp [setBufferWord_getElem, hdiv, hmod, be32_wordByte]

theorem bufferWord_setBufferWord_ne {n : Nat} (buf : Vector Byte n) {j k : Nat} (v : Word)
    (h : 4 * k + 3 < n) (hjk : k ≠ j) :
    bufferWord (setBufferWord buf j v) k = bufferWord buf k := by
  have hdiv (b : Nat) (hb : b < 4) : (4 * k + b) / 4 ≠ j := by omega
  rw [bufferWord_eq_getElem _ _ h, bufferWord_eq_getElem _ _ h]
  simp [setBufferWord_getElem, hdiv, hjk]

/-! ### What a write of an operand register sets and leaves (R76) -/

theorem operandWrite_ctrl_of_ne {r : Reg} (v : Word) (s : State) (h : r ≠ .ctrl) :
    (operandWrite r v s).ctrl = s.ctrl := by
  cases r with
  | ctrl => exact absurd rfl h
  | _ => rfl

theorem operandWrite_keyLen_of_ne {r : Reg} (v : Word) (s : State) (h : r ≠ .keyLen) :
    (operandWrite r v s).keyLen = s.keyLen := by
  cases r with
  | keyLen => exact absurd rfl h
  | _ => rfl

theorem operandWrite_cntHi_of_ne {r : Reg} (v : Word) (s : State) (h : r ≠ .cntHi) :
    (operandWrite r v s).cntHi = s.cntHi := by
  cases r with
  | cntHi => exact absurd rfl h
  | _ => rfl

theorem operandWrite_cntLo_of_ne {r : Reg} (v : Word) (s : State) (h : r ≠ .cntLo) :
    (operandWrite r v s).cntLo = s.cntLo := by
  cases r with
  | cntLo => exact absurd rfl h
  | _ => rfl

theorem operandWrite_key_of_ne {r : Reg} (v : Word) (s : State) (h : ∀ j, r ≠ .keyWord j) :
    (operandWrite r v s).key = s.key := by
  cases r with
  | keyWord j => exact absurd rfl (h j)
  | _ => rfl

theorem operandWrite_digestWord_of_ne {r : Reg} {j : Fin 16} (v : Word) (s : State)
    (h : r ≠ .digest j) :
    bufferWord (operandWrite r v s).dig j = bufferWord s.dig j := by
  cases r with
  | digest k =>
    refine bufferWord_setBufferWord_ne s.dig v (by omega) fun hjk => h ?_
    rw [Fin.ext hjk]
  | _ => rfl

/-- STATUS shows of the operand registers only CTRL's enables, in IRQ (R30, R36). -/
theorem statusWord_operandWrite_of_ne {r : Reg} (v : Word) (s : State) (h : r ≠ .ctrl) :
    statusWord (operandWrite r v s) = statusWord s := by
  cases r with
  | ctrl => exact absurd rfl h
  | _ => rfl

/-- STATUS below IRQ shows no operand register (R30). -/
theorem statusWord_operandWrite_low (r : Reg) (v : Word) (s : State) :
    statusWord (operandWrite r v s) &&& 0x0FF = statusWord s &&& 0x0FF := by
  by_cases hr : r = .ctrl
  · subst hr
    have hmask (x : Word) (b : Bool) : (x ||| flagBit b 8) &&& 0x0FF = x &&& 0x0FF := by
      rw [BitVec.and_or_distrib_right]
      cases b <;> simp [flagBit]
    rw [statusWord, statusWord, hmask, hmask]
    rfl
  · rw [statusWord_operandWrite_of_ne v s hr]

/-- A write of an operand register shows in no other register, but CTRL's enables in STATUS (R36, R76). -/
theorem regRead_operandWrite_of_ne {r r' : Reg} (v : Word) (s : State) (h : r' ≠ r)
    (hstatus : r = .ctrl → r' ≠ .status) :
    regRead r' (operandWrite r v s) = regRead r' s := by
  obtain ⟨-, -, -, -, -, hcode, hdbc, hinfo, hasc, -⟩ := operandWrite_frame r v s
  cases r' with
  | id => rfl
  | caps => rfl
  | cmd => rfl
  | keyWord j => rfl
  | ctrl => exact operandWrite_ctrl_of_ne v s h.symm
  | status => exact statusWord_operandWrite_of_ne v s fun hr => hstatus hr rfl
  | keyLen => simp only [regRead, operandWrite_keyLen_of_ne v s h.symm]
  | cntHi => exact operandWrite_cntHi_of_ne v s h.symm
  | cntLo => exact operandWrite_cntLo_of_ne v s h.symm
  | code => exact hcode
  | dbc => exact hdbc
  | info => exact hinfo
  | ascii j => simp only [regRead, hasc]
  | digest j => exact operandWrite_digestWord_of_ne v s h.symm

/-- What a read of an operand register gives after a write of `v`: reserved bits and KEY read 0 (R39, R48, R76). -/
def readBack (r : Reg) (v : Word) : Word :=
  match r with
  | .ctrl => v &&& 0x000003F3
  | .keyLen => v &&& 0x000001FF
  | .keyWord _ => 0
  | _ => v

theorem zeroExtend_extractLsb'_nine (v : Word) :
    (v.extractLsb' 0 9).zeroExtend 32 = v &&& 0x000001FF := by
  apply BitVec.eq_of_toNat_eq
  rw [BitVec.toNat_setWidth_of_le (by decide), BitVec.extractLsb'_toNat, BitVec.toNat_and]
  exact (Nat.and_two_pow_sub_one_eq_mod v.toNat 9).symm

theorem regRead_operandWrite_same {r : Reg} (v : Word) (s : State) (hr : isOperandReg r = true) :
    regRead r (operandWrite r v s) = readBack r v := by
  cases r with
  | ctrl => rfl
  | keyLen => exact zeroExtend_extractLsb'_nine v
  | cntHi => rfl
  | cntLo => rfl
  | digest j => exact bufferWord_setBufferWord_same s.dig j v (by omega)
  | keyWord j => rfl
  | _ => cases hr

/-! ### Reads beside the model's own lists -/

@[simp] theorem regRead_respond (r : Reg) (a : Response) (s : State) :
    regRead r (respond a s) = regRead r s := rfl

@[simp] theorem regRead_pending (r : Reg) (s : State) (p : List Event) :
    regRead r { s with pending := p } = regRead r s := rfl

theorem keyLen_read_toNat (s : State) : (regRead .keyLen s).toNat = s.keyLen.toNat :=
  BitVec.toNat_setWidth_of_le (by decide)

theorem plainWrite_idle {r : Reg} (v : Word) {s : State} (hr : isOperandReg r = true)
    (hidle : s.phase = .idle) : plainWrite r v s = operandWrite r v s := by
  have hstatus : r ≠ .status := by rintro rfl; cases hr
  rw [plainWrite, if_neg hstatus, if_pos hr, (busyFlag_eq_false_iff s).2 hidle]
  rfl

theorem isOperandReg_iff (r : Reg) :
    isOperandReg r = true ↔
      r = .ctrl ∨ r = .keyLen ∨ r = .cntHi ∨ r = .cntLo ∨ (∃ j, r = .digest j)
        ∨ (∃ j, r = .keyWord j) := by
  cases r <;> simp [isOperandReg]

end Sys2Proof.Machine

namespace Sys2Proof.Safety
open Sys2Proof.Machine

theorem step_of_readTurn {s : State} {r : Reg} (h : ReadTurn r s) :
    step s = .next (afterTransaction (.data (regRead r s)) s) := by
  obtain ⟨rest, hp⟩ := h
  rw [step_read hp (decodeAccess_regOffset r), afterTransaction, hp, List.tail_cons,
    regRead_pending]

theorem step_of_statusWrite {s : State} {v : Word} (h : WriteTurn .status v s) :
    step s = .next (statusWrite v (afterTransaction .ok s)) :=
  step_of_plainWrite h nofun

/-- Settles O7: the step of a read keeps the state, and each register's value is its definition. -/
theorem readHasNoSideEffect : Obligations.ReadHasNoSideEffect := by
  unfold Obligations.ReadHasNoSideEffect
  intro s r h
  exact ⟨step_of_readTurn h, rfl, rfl, rfl, rfl, keyLen_read_toNat s, rfl, rfl, rfl, rfl, rfl,
    fun _ => rfl⟩

/-- Settles O10: the written register reads back, and the operand fields it does not name stay. -/
theorem operandWriteReadsBack : Obligations.OperandWriteReadsBack := by
  unfold Obligations.OperandWriteReadsBack
  intro s r v hidle hr hw
  have hcmd : r ≠ .cmd := by rintro rfl; cases hr
  have hstep := step_of_plainWrite hw hcmd
  rw [plainWrite_idle (s := { s with pending := s.pending.tail }) v hr hidle] at hstep
  refine ⟨_, hstep, rfl, ?_, ?_, ?_, ?_, ?_⟩
  · rw [regRead_respond, regRead_operandWrite_same v _ hr]
    rfl
  · rintro j rfl i
    exact setBufferWord_getElem s.key j v i i.isLt
  · intro r' hne hstatus
    rw [regRead_respond, regRead_operandWrite_of_ne v _ hne hstatus, regRead_pending]
  · exact operandWrite_key_of_ne v _
  · exact statusWord_operandWrite_low r v _

/-- Settles O11: a write while BUSY of an operand register or CMD is a dropped write, and a read-only register ignores its write. -/
theorem writeWhileBusyIsDropped : Obligations.WriteWhileBusyIsDropped := by
  unfold Obligations.WriteWhileBusyIsDropped
  refine ⟨fun s r v hbusy hr hw => step_of_dropTurn ⟨hbusy, r, v, hr, hw⟩,
    fun s r v hr hcmd hstatus hw => ?_, fun s v => step_of_statusWrite, isOperandReg_iff⟩
  rw [step_of_plainWrite hw hcmd, plainWrite_readOnly v hr hstatus, afterTransaction]

/-- Settles O12: a flag cleared where the written bit is 1 is the flag and not that bit. -/
theorem statusWriteClearsItsBits : Obligations.StatusWriteClearsItsBits := by
  unfold Obligations.StatusWriteClearsItsBits
  intro s v hw
  have hclear (b f : Bool) : (if b then false else f) = (f && !b) := by
    cases b <;> simp
  refine ⟨_, step_of_statusWrite hw, ?_, ?_⟩
  · simp only [statusWrite, hclear]
    rfl
  · simp only [irq, statusWrite_doneFlag, statusWrite_errFlag, hclear]
    rfl

end Sys2Proof.Safety
end

section
/-! The encoding of commands and of their implicit operands (R100-R106): command words, CTRL.ALG and CTRL.DIGITS. -/

namespace Sys2Proof.Machine

/-! ### Command words -/

/-- A bit of 31:4 is refused before the opcode is read (R101). -/
theorem decodeCommand_of_rsvField_ne {w : Word} (h : rsvField w ≠ 0) :
    decodeCommand w = .error .reservedBits := by
  rw [decodeCommand, if_pos h]

/-- The legal words are exactly 0..4 (R106). -/
theorem exists_decodeCommand_eq_ok_iff (w : Word) :
    (∃ i, decodeCommand w = .ok i) ↔ w.toNat ≤ 4 := by
  constructor
  · rintro ⟨i, hi⟩
    rw [eq_encodeCommand_of_decodeCommand hi]
    exact encodeCommand_le i
  · intro hle
    cases hd : decodeCommand w with
    | ok i => exact ⟨i, rfl⟩
    | error e => exact absurd hle (lt_of_decodeCommand_error hd).not_ge

/-! ### The digit count (R104) -/

/-- Only CTRL.DIGITS lies in the bits that the mask leaves out, so the algorithm stays. -/
theorem algOperand_of_ctrl_eq_but_digits {s : State} {c : Word}
    (h : c &&& 0xFFFFFF0F = s.ctrl &&& 0xFFFFFF0F) :
    algOperand { s with ctrl := c } = algOperand s := by
  have hmask : (0xFFFFFF0F : Word).extractLsb' 0 2 = BitVec.allOnes 2 := by decide
  have halg := congrArg (BitVec.extractLsb' 0 2) h
  rw [BitVec.extractLsb'_and, BitVec.extractLsb'_and, hmask, BitVec.and_allOnes,
    BitVec.and_allOnes] at halg
  exact congrArg algOfCode halg

/-- The acceptance checks of GENERATE and HMAC read KEY_LEN and the algorithm alone (R120). -/
theorem keyedCommandError_congr {s t : State} (hkey : t.keyLen = s.keyLen)
    (halg : algOperand t = algOperand s) : keyedCommandError t = keyedCommandError s := by
  rw [keyedCommandError, keyedCommandError, hkey, halg]

/-- The acceptance check of TRUNCATE reads the algorithm alone (R120). -/
theorem truncateError_congr {s t : State} (halg : algOperand t = algOperand s) :
    truncateError t = truncateError s := by
  rw [truncateError, truncateError, halg]

/-- A word with its top bit clear is below 2^31 (R212). -/
theorem toNat_lt_of_getLsbD_31 {w : Word} (h : w.getLsbD 31 = false) : w.toNat < 2 ^ 31 :=
  BitVec.toNat_lt_of_msb_false (by rwa [BitVec.msb_eq_getLsbD_last])

/-- From d = 10 the power exceeds every D, which is below 2^31 (R214). -/
theorem truncCode_eq_self {dbc : Word} {d : Nat} (h : dbc.toNat < 2 ^ 31) (hd : 10 ≤ d) :
    truncCode dbc d = dbc := by
  have hpow : 10 ^ 10 ≤ 10 ^ d := Nat.pow_le_pow_right (by decide) hd
  apply BitVec.eq_of_toNat_eq
  rw [truncCode_toNat, Nat.mod_eq_of_lt (by omega)]

/-- A text padded to more places is the text padded to fewer with zeros before it (R215). -/
theorem renderCode_of_le {code : Word} {d d' : Nat} (hlen : (digitsOf code).length ≤ d)
    (hd : d ≤ d') :
    renderCode code d' = List.replicate (d' - d) 0x30 ++ renderCode code d := by
  have hsplit : d' - (digitsOf code).length = (d' - d) + (d - (digitsOf code).length) := by omega
  rw [renderCode, hsplit, List.replicate_add, List.append_assoc, renderCode]

theorem digitsOf_length_le_ten (code : Word) : (digitsOf code).length ≤ 10 :=
  decimalDigits_length_le (code.isLt.trans (by decide)) (by decide)

end Sys2Proof.Machine

namespace Sys2Proof.Safety
open Sys2Proof.Machine

/-- Settles O2: the decoder inverts the encoder both ways, and what it rejects is above 4. -/
theorem decodeInvertsEncode : Obligations.DecodeInvertsEncode := by
  unfold Obligations.DecodeInvertsEncode
  exact ⟨rfl, rfl, rfl, rfl, rfl, decodeCommand_encodeCommand,
    fun _ _ => eq_encodeCommand_of_decodeCommand, exists_decodeCommand_eq_ok_iff,
    fun _ => decodeCommand_of_rsvField_ne⟩

/-- Settles O55: the checks read no bit of DIGITS, and a code of at most 10 digits is only padded above d = 10. -/
theorem effectiveDigits : Obligations.EffectiveDigits := by
  unfold Obligations.EffectiveDigits
  refine ⟨fun s => ?_, fun s c hc => ?_, fun dbc d hbit hd => ?_⟩
  · obtain ⟨hpos, hlt⟩ := effDigits_bounds s
    exact ⟨rfl, fun h => if_pos h, fun h => if_neg h, hpos, Nat.le_of_lt_succ hlt⟩
  · have halg := algOperand_of_ctrl_eq_but_digits hc
    exact ⟨keyedCommandError_congr rfl halg, truncateError_congr halg⟩
  · have hlt : dbc.toNat < 2 ^ 31 := toNat_lt_of_getLsbD_31 hbit
    rw [truncCode_eq_self hlt hd, truncCode_eq_self hlt le_rfl]
    exact renderCode_of_le (digitsOf_length_le_ten dbc) hd

/-- Settles O1: the legal words are the five commands' own, and each other word has its reserved bits or an opcode above 4. -/
theorem commandWordsDecodeAsTheMapSays : Obligations.CommandWordsDecodeAsTheMapSays := by
  unfold Obligations.CommandWordsDecodeAsTheMapSays
  exact ⟨decodeCommand_encodeCommand .nop, decodeCommand_encodeCommand .generate,
    decodeCommand_encodeCommand .hmac, decodeCommand_encodeCommand .truncate,
    decodeCommand_encodeCommand .clear, by decide, by decide,
    decodeCommand_of_rsvField_ne (by decide), decodeCommand_of_rsvField_ne (by decide)⟩

/-- Settles O51: HMAC is a hash of the outer input, so both lengths are the hash function's. -/
theorem hashAndHmacLengths : Obligations.HashAndHmacLengths := by
  unfold Obligations.HashAndHmacLengths
  exact ⟨fun _ => rfl, rfl, rfl, rfl, rfl, rfl, rfl, rfl, rfl, rfl, rfl,
    fun _ => ⟨rfl, rfl, rfl⟩,
    fun alg x k m => ⟨hashOf_length alg x, hashOf_length alg (outerInput alg k m)⟩⟩

end Sys2Proof.Safety
end

section
/-! What the commands do at their CMD write (R120-R127), and the operands of the engine while BUSY (R121). -/

namespace Sys2Proof.Machine

/-! ### Illegal words -/

/-- A word with a reserved bit or an opcode above 4 names no command (R101, R102). -/
theorem decodeCommand_eq_error {w : Word} (h : rsvField w ≠ 0 ∨ 5 ≤ (opField w).toNat) :
    ∃ e, decodeCommand w = .error e := by
  cases hd : decodeCommand w with
  | error e => exact ⟨e, rfl⟩
  | ok i =>
    have hw := word_toNat w
    have hle := (exists_decodeCommand_eq_ok_iff w).1 ⟨i, hd⟩
    obtain hrsv | hop := h
    · have hpos : (rsvField w).toNat ≠ 0 := fun h0 => hrsv (BitVec.eq_of_toNat_eq h0)
      omega
    · omega

theorem commandWrite_of_decodeCommand_error {w : Word} {e : IllegalWord}
    (h : decodeCommand w = .error e) (s : State) : commandWrite w s = execIllegal s := by
  rw [commandWrite, h]

/-! ### STATUS below IRQ -/

/-- The bits 7:0 of STATUS after a completion without error, in an IDLE block (R30). -/
theorem statusWord_low_of_success {s : State} (hidle : s.phase = .idle)
    (hdone : s.doneFlag = true) (herr : s.errFlag = false) (hcode : s.errCode = .noError) :
    statusWord s &&& 0x0FF = if s.ovrFlag then 0x0A else 0x02 := by
  rw [statusWord, (busyFlag_eq_false_iff s).2 hidle, hdone, herr, hcode]
  cases s.ovrFlag <;> cases irq s <;> decide

/-! ### Error completions -/

/-- TRUNCATE writes no digest, so its error completion clears none (R232). -/
theorem raiseError_truncate_dig (e : ErrCode) (s : State) :
    (raiseError (some .truncate) e s).dig = s.dig := rfl

end Sys2Proof.Machine

namespace Sys2Proof.Safety
open Sys2Proof.Machine

/-! ### The operands of the engine -/

theorem engineInv_of_idle {s : State} (h : s.phase = .idle) : EngineInv s :=
  fun hbusy => absurd h hbusy

/-- What the checks of a long command passed is what the engine needs, and its acceptance empties the record (R120, R121). -/
theorem engineInv_of_start {i : Instr} {op : LongOp} {s : State} (hop : longOp i = some op)
    (hready : commandError i s = none) : EngineInv (startLong op (startRecord s)) := by
  intro _
  cases i with
  | generate | hmac =>
    obtain ⟨hpos, hle, halg⟩ := (keyedCommandError_eq_none_iff s).1 hready
    exact ⟨halg, fun _ => ⟨hpos, hle⟩, rfl, rfl, rfl⟩
  | truncate =>
    cases hop
    exact ⟨(truncateError_eq_none_iff s).1 hready, fun h => absurd rfl h, rfl, rfl, rfl⟩
  | nop => cases hop
  | clear => cases hop

/-- A write of STATUS leaves an empty record empty (R78). -/
theorem engineInv_statusWrite {s : State} (v : Word) (h : EngineInv s) :
    EngineInv (statusWrite v s) := by
  intro hbusy
  obtain ⟨halg, hkey, hdone, herr, hcode⟩ := h hbusy
  exact ⟨halg, hkey, by simp [hdone], by simp [herr], by simp [hcode]⟩

/-- Settles O41: while BUSY a step changes no operand and at most clears flags, and the only steps into BUSY are acceptances whose checks passed. -/
theorem engineOperandsStayChecked : Obligations.EngineOperandsStayChecked := by
  unfold Obligations.EngineOperandsStayChecked
  intro s t hinv h
  cases stepKind_of_step h with
  | waits hturn hidle => exact hinv
  | completes op alg hturn hbusy halg => exact engineInv_of_idle rfl
  | resets hturn => exact engineInv_of_idle rfl
  | reads r hturn => exact hinv
  | clearsFlags v hturn => exact engineInv_statusWrite v hinv
  | setsOperand r v hturn hr hidle =>
    obtain ⟨hphase, -⟩ := operandWrite_frame r v { s with pending := s.pending.tail }
    exact engineInv_of_idle (hphase.trans hidle)
  | ignores r v hturn hr hstatus hcmd => exact hinv
  | drops hturn => exact hinv
  | nops hturn => exact hinv
  | clears hturn => exact engineInv_of_idle hturn.1
  | starts i op hturn hop hready => exact engineInv_of_start hop hready
  | fails i e hturn herror =>
    exact engineInv_of_idle ((raiseError_phase (some i) e _).trans hturn.1)
  | rejects hturn => exact engineInv_of_idle hturn.1

/-! ### Acceptance -/

theorem exec_of_start {i : Instr} {op : LongOp} {s : State} (hidle : s.phase = .idle)
    (hop : longOp i = some op) (hready : commandError i s = none) :
    exec i s = .next (startLong op (startRecord s)) := by
  rw [exec_idle i hidle, acceptedState_of_longOp hop hready]

theorem exec_of_error {i : Instr} {e : ErrCode} {s : State} (hidle : s.phase = .idle)
    (herror : commandError i s = some e) :
    exec i s = .next (raiseError (some i) e (startRecord s)) := by
  rw [exec_idle i hidle, acceptedState_of_error herror]

/-- Settles O4: the step of a CMD write runs the word, and the decoder names its command. -/
theorem stepRunsTheDecodedCommand : Obligations.StepRunsTheDecodedCommand := by
  unfold Obligations.StepRunsTheDecodedCommand
  intro s w i hw hd
  rw [step_of_cmdWrite hw, commandWrite, hd]

/-- Settles O20: NOP's accepted state is the state itself, and the reserved bits are checked before the opcode. -/
theorem nopDoesNothing : Obligations.NopDoesNothing := by
  unfold Obligations.NopDoesNothing
  exact ⟨fun _ => exec_idle .nop, fun _ => exec_busy .nop, decodeCommand_encodeCommand .nop,
    fun _ _ => decodeCommand_of_rsvField_ne⟩

/-- Settles O21: the checks pass, so the BUSY phase begins. -/
theorem generateIsAccepted : Obligations.GenerateIsAccepted := by
  unfold Obligations.GenerateIsAccepted
  intro s hready
  exact exec_of_start hready.1 rfl ((keyedReady_iff hready.1).1 hready)

/-- Settles O22: the checks pass, so the BUSY phase begins. -/
theorem hmacIsAccepted : Obligations.HmacIsAccepted := by
  unfold Obligations.HmacIsAccepted
  intro s hready
  exact exec_of_start hready.1 rfl ((keyedReady_iff hready.1).1 hready)

/-- Settles O23: the one check passes, so the BUSY phase begins. -/
theorem truncateIsAccepted : Obligations.TruncateIsAccepted := by
  unfold Obligations.TruncateIsAccepted
  intro s hready
  exact exec_of_start hready.1 rfl ((truncateReady_iff hready.1).1 hready)

/-- Settles O28: the decoder rejects the word, and its error completion clears no output. -/
theorem illegalWordIsAnErrorCompletion : Obligations.IllegalWordIsAnErrorCompletion := by
  unfold Obligations.IllegalWordIsAnErrorCompletion
  intro s w hill hw
  obtain ⟨e, he⟩ := decodeCommand_eq_error hill
  rw [step_of_cmdWrite hw, commandWrite_of_decodeCommand_error he]
  refine ⟨fun hidle => ⟨?_, rfl⟩, fun hbusy => ?_⟩
  · rw [execIllegal_idle (s := { s with pending := s.pending.tail }) hidle]
    rfl
  · rw [execIllegal_busy (s := { s with pending := s.pending.tail }) hbusy]
    rfl

/-- Settles O27: CLEAR's accepted state has operands, digest, results and record zeroised but for DONE, and KEY_LEN = 0 fails GENERATE's first check. -/
theorem clearZeroisesAtOnce : Obligations.ClearZeroisesAtOnce := by
  unfold Obligations.ClearZeroisesAtOnce
  refine ⟨fun s => exec_idle .clear, fun s => exec_busy .clear, fun s t hidle h => ?_,
    fun s hidle hkey => ?_⟩
  · rw [exec_idle .clear hidle] at h
    obtain rfl := Host.Outcome.next.inj h
    exact statusWord_low_of_success hidle rfl rfl rfl
  · have herror : keyedCommandError s = some .missingKey := by
      rw [keyedCommandError, if_pos (by rw [hkey]; rfl)]
    exact ⟨_, exec_of_error hidle herror, rfl, rfl⟩

/-- Settles O31: while BUSY the command is dropped; while IDLE it does nothing, clears, fails its check, or begins. -/
theorem commandFrame : Obligations.CommandFrame := by
  unfold Obligations.CommandFrame
  intro i s t h
  by_cases hidle : s.phase = .idle
  · rw [exec_idle i hidle] at h
    obtain rfl := Host.Outcome.next.inj h
    obtain ⟨rfl, ha⟩ | ⟨rfl, ha⟩ | ⟨e, hcmd, ha⟩ | ⟨op, hcmd, ha⟩ := acceptedState_cases i s
      <;> rw [ha]
    · simp [SameHost, SameOperands, SameResult, hidle]
    · simp [SameHost, SameOperands, SameResult, hidle]
    · have hnop : i ≠ .nop := by rintro rfl; simp at hcmd
      have hdig : i = .truncate → (raiseError (some i) e (startRecord s)).dig = s.dig := by
        rintro rfl
        exact raiseError_truncate_dig e (startRecord s)
      simpa [SameHost, SameOperands, SameResult, hidle, hnop] using hdig
    · have hnop : i ≠ .nop := by rintro rfl; simp at hcmd
      have hclear : i ≠ .clear := by rintro rfl; simp at hcmd
      simp [SameHost, SameOperands, SameResult, hidle, hnop, hclear]
  · rw [exec_busy i hidle] at h
    obtain rfl := Host.Outcome.next.inj h
    simp [SameHost, SameOperands, SameResult, hidle, dropWrite]

end Sys2Proof.Safety
end

section
/-! The long commands from acceptance to completion (R121, R123-R125): what the engine writes, what it keeps, and what it reads. -/

namespace Sys2Proof.Machine

/-! ### The operands the engine reads (R105) -/

/-- The first bytes of a buffer are what its bytes below the bound say. -/
theorem toList_take_congr {n k : Nat} {v v' : Vector Byte n}
    (h : ∀ i : Fin n, i.val < k → v[i] = v'[i]) : v.toList.take k = v'.toList.take k := by
  apply List.ext_getElem
  · simp
  · intro i hi hi'
    simp only [List.length_take, Vector.length_toList, lt_inf_iff] at hi
    simpa using h ⟨i, hi.2⟩ hi.1

/-- The key is KEY_LEN and the key bytes below it (R151). -/
theorem keyBytes_congr {s s' : State} (hlen : s.keyLen = s'.keyLen)
    (h : ∀ i : Fin 256, i.val < s.keyLen.toNat → s.key[i] = s'.key[i]) :
    keyBytes s = keyBytes s' := by
  rw [keyBytes, keyBytes, ← hlen]
  exact toList_take_congr h

/-- The keyed hash reads the key and the counter alone (R150, R151). -/
theorem engineHmac_congr {s s' : State} (hkey : keyBytes s = keyBytes s')
    (hhi : s.cntHi = s'.cntHi) (hlo : s.cntLo = s'.cntLo) (alg : Alg) :
    engineHmac alg s = engineHmac alg s' := by
  rw [engineHmac, engineHmac, counterMessage, counterMessage, counter, counter, hkey, hhi, hlo]

theorem effDigits_congr {s s' : State} (h : digitsField s = digitsField s') :
    effDigits s = effDigits s' := by
  rw [effDigits, effDigits, h]

/-- TRUNCATE reads back the digest that HMAC wrote (R125, R128). -/
theorem digestBytes_of_dig {alg : Alg} {h : List Byte} {s : State} (hlength : h.length = hlen alg)
    (hdig : s.dig = zeroFilled 64 (hlen alg) h) : digestBytes alg s = h := by
  rw [digestBytes, hdig, ← hlength]
  exact zeroFilled_take (hlength ▸ hlen_le alg)

theorem engineHmac_length (alg : Alg) (s : State) : (engineHmac alg s).length = hlen alg :=
  hashOf_length alg _

/-! ### The INFO word and the window -/

/-- The INFO word as a number (R44, R129). -/
theorem infoWord_toNat (alg : Alg) {d o : Nat} (hd : d < 16) (ho : o < 16) :
    (infoWord alg d o).toNat
      = 2 ^ 31 + (algCode alg).toNat * 2 ^ 16 + d * 2 ^ 8 + o := by
  have halg := (algCode alg).isLt
  have hvalid : (1#32 <<< 31).toNat = 2 ^ 31 * 1 := by decide
  have halgUsed : ((algCode alg).zeroExtend 32 <<< 16).toNat = 2 ^ 16 * (algCode alg).toNat := by
    cases alg <;> decide
  have hdigits : (BitVec.ofNat 32 d <<< 8).toNat = 2 ^ 8 * d := by
    rw [BitVec.toNat_shiftLeft, BitVec.toNat_ofNat, Nat.shiftLeft_eq]
    omega
  have hoffset : (BitVec.ofNat 32 o).toNat = o := Nat.mod_eq_of_lt (by omega)
  rw [infoWord, BitVec.toNat_or, BitVec.toNat_or, BitVec.toNat_or, hvalid, halgUsed, hdigits,
    hoffset, Nat.or_assoc, Nat.or_assoc, ← Nat.two_pow_add_eq_or_of_lt (i := 8) (by omega),
    ← Nat.two_pow_add_eq_or_of_lt (i := 16) (by omega),
    ← Nat.two_pow_add_eq_or_of_lt (i := 31) (by omega)]
  omega

/-- The offset is the last byte of DIG[0:HLEN] mod 16 (R210). -/
theorem truncOffset_digestBytes (alg : Alg) (s : State) :
    truncOffset alg (digestBytes alg s) = (s.dig.toList.getD (hlen alg - 1) 0).toNat % 16 := by
  have hpos := hlen_ge alg
  rw [truncOffset, byteAt_digestBytes alg s _ (by omega), BitVec.toNat_and]
  exact Nat.and_two_pow_sub_one_eq_mod _ 4

/-- A byte of D is a byte of the window, the first with its top bit cleared (R211, R212). -/
theorem extractLsb'_truncDbc (alg : Alg) (h : List Byte) (b : Fin 4) :
    (truncDbc alg h).extractLsb' (24 - 8 * b.val) 8
      = byteAt h (truncOffset alg h + b.val) &&& (if b.val = 0 then 0x7F else 0xFF) := by
  have hall (x : Byte) : x &&& 255#8 = x := BitVec.and_allOnes
  rw [truncDbc, extractLsb'_be32]
  fin_cases b <;> simp [hall]

/-- The window lies inside DIG[0:HLEN] (R211). -/
theorem byteAt_digestBytes_window (alg : Alg) (s : State) (h : List Byte) (b : Fin 4) :
    byteAt (digestBytes alg s) (truncOffset alg h + b.val)
      = s.dig.toList.getD (truncOffset alg h + b.val) 0 := by
  have hoff := truncOffset_lt alg h
  have hlen := hlen_ge alg
  exact byteAt_digestBytes alg s _ (by omega)

/-! ### The completed command -/

/-- What a long command accepted in `s` leaves at its completion (R120, R121). -/
def completedState (op : LongOp) (alg : Alg) (s : State) : State :=
  finishLong (writeOutputs op alg (startLong op (startRecord s)))

/-- The engine completes an accepted command (R121). -/
theorem engineStep_startLong {op : LongOp} {alg : Alg} {s : State}
    (halg : algOperand s = some alg) :
    engineStep (startLong op (startRecord s)) = .next (completedState op alg s) :=
  engineStep_busy rfl halg

/-- GENERATE writes the keyed hash and its truncation (R123). -/
theorem completedState_generate (alg : Alg) (s : State) :
    completedState .generate alg s
      = writeResult alg (effDigits s) (engineTruncate alg (engineHmac alg s) s)
        (writeDigest alg (engineHmac alg s) (finishLong (startRecord s))) := rfl

/-- HMAC writes the keyed hash and the empty result (R124). -/
theorem completedState_hmac (alg : Alg) (s : State) :
    completedState .hmac alg s
      = clearResult (writeDigest alg (engineHmac alg s) (finishLong (startRecord s))) := rfl

/-- TRUNCATE writes the truncation of the digest (R125). -/
theorem completedState_truncate (alg : Alg) (s : State) :
    completedState .truncate alg s
      = writeResult alg (effDigits s) (engineTruncate alg (digestBytes alg s) s)
        (finishLong (startRecord s)) := rfl

end Sys2Proof.Machine

namespace Sys2Proof.Safety
open Sys2Proof.Machine

/-! ### The results of a truncation -/

theorem code_of_holdsTruncation {alg : Alg} {d : Nat} {h : List Byte} {t : State}
    (ht : HoldsTruncation alg d h t) : t.code.toNat = t.dbc.toNat % 10 ^ d := by
  obtain ⟨hcode, hdbc, -⟩ := ht
  rw [hcode, hdbc, truncCode_toNat]

/-- The fields of INFO, and INFO as a number (R44, R129). -/
theorem info_of_holdsTruncation {alg : Alg} {d : Nat} {h : List Byte} {t : State} (hd : d < 16)
    (ht : HoldsTruncation alg d h t) :
    infoValid t = true ∧ infoAlg t = algCode alg ∧ (infoDigits t).toNat = d
      ∧ (infoOffset t).toNat = truncOffset alg h
      ∧ (regRead .info t).toNat
        = 2 ^ 31 + (algCode alg).toNat * 2 ^ 16 + d * 2 ^ 8 + truncOffset alg h := by
  obtain ⟨-, -, hinfo, -⟩ := ht
  have ho := truncOffset_lt alg h
  obtain ⟨hvalid, halg, hdigits, hoffset, -⟩ := infoWord_fields alg d _ hd ho
  rw [infoValid, infoAlg, infoDigits, infoOffset, regRead, hinfo]
  exact ⟨hvalid, halg, hdigits, hoffset, infoWord_toNat alg hd ho⟩

/-- ASC is the text of CODE, zero-filled (R45, R129). -/
theorem asc_of_holdsTruncation {alg : Alg} {d : Nat} {h : List Byte} {t : State}
    (ht : HoldsTruncation alg d h t) (i : Fin 16) :
    t.asc[i] = if i.val < d then (renderCode t.code d).getD i.val 0 else 0 := by
  obtain ⟨hcode, -, -, hasc⟩ := ht
  rw [hcode, hasc]
  exact zeroFilled_getElem 16 d _ i.val i.isLt

/-! ### What a completion writes and keeps -/

/-- A completed command ends IDLE with DONE and no error, and keeps OVR, the operands and the host's lists (R121). -/
theorem completedState_frame (op : LongOp) (alg : Alg) (s : State) :
    (completedState op alg s).phase = .idle ∧ (completedState op alg s).doneFlag = true
      ∧ (completedState op alg s).errFlag = false ∧ (completedState op alg s).errCode = .noError
      ∧ (completedState op alg s).ovrFlag = s.ovrFlag ∧ SameOperands s (completedState op alg s)
      ∧ SameHost s (completedState op alg s) := by
  obtain ⟨-, hctrl, hlen, hhi, hlo, hkey, -, herr, hcode, hovr, hpending, hresp⟩ :=
    writeOutputs_frame op alg (startLong op (startRecord s))
  exact ⟨rfl, rfl, herr, hcode, hovr, ⟨hctrl, hlen, hhi, hlo, hkey⟩, hpending, hresp⟩

theorem holdsTruncation_generate (alg : Alg) (s : State) :
    HoldsTruncation alg (effDigits s) (engineHmac alg s) (writeOutputs .generate alg s) :=
  ⟨rfl, rfl, rfl, rfl⟩

theorem holdsTruncation_truncate (alg : Alg) (s : State) :
    HoldsTruncation alg (effDigits s) (digestBytes alg s) (writeOutputs .truncate alg s) :=
  ⟨rfl, rfl, rfl, rfl⟩

/-- Settles O32: the engine's turn does nothing while IDLE, and a completion writes outputs, PHASE and DONE alone. -/
theorem engineFrame : Obligations.EngineFrame := by
  unfold Obligations.EngineFrame
  intro s t h
  obtain ⟨hidle, rfl⟩ | ⟨op, alg, hbusy, -, rfl⟩ := engineStep_cases h
  · simp [SameHost, SameOperands, hidle]
  · obtain ⟨-, hctrl, hlen, hhi, hlo, hkey, -, herr, hcode, hovr, hpending, hresp⟩ :=
      writeOutputs_frame op alg s
    refine ⟨⟨hpending, hresp⟩, ⟨hctrl, hlen, hhi, hlo, hkey⟩, hovr, herr, hcode, ?_,
      fun _ => ⟨rfl, rfl⟩, ?_, ?_⟩ <;> rw [hbusy]
    · exact nofun
    · rintro ⟨⟩
      rfl
    · rintro ⟨⟩
      exact ⟨rfl, rfl, rfl, rfl⟩

/-- Settles O24: GENERATE's completion holds the truncation of the keyed hash it writes to DIG. -/
theorem generateComputesTheCode : Obligations.GenerateComputesTheCode := by
  unfold Obligations.GenerateComputesTheCode
  intro s alg hready halg
  have hholds : HoldsTruncation alg (effDigits s) (engineHmac alg s)
      (completedState .generate alg s) := holdsTruncation_generate alg _
  obtain ⟨hvalid, halgUsed, hdigits, hoffset, hinfo⟩ :=
    info_of_holdsTruncation (effDigits_bounds s).2 hholds
  exact ⟨_, _, generateIsAccepted s hready, engineStep_startLong halg,
    fun i => zeroFilled_getElem 64 _ _ i.val i.isLt, rfl, code_of_holdsTruncation hholds,
    hvalid, halgUsed, hdigits, hoffset, hinfo, asc_of_holdsTruncation hholds,
    completedState_frame .generate alg s⟩

/-- Settles O25: HMAC's completion writes the keyed hash to DIG and empties the results. -/
theorem hmacWritesTheDigest : Obligations.HmacWritesTheDigest := by
  unfold Obligations.HmacWritesTheDigest
  intro s alg hready halg
  exact ⟨_, _, hmacIsAccepted s hready, engineStep_startLong halg,
    fun i => zeroFilled_getElem 64 _ _ i.val i.isLt, ⟨rfl, rfl, rfl, rfl⟩, BitVec.getLsbD_zero,
    completedState_frame .hmac alg s⟩

/-- Settles O26: TRUNCATE's completion holds the truncation of DIG[0:HLEN], in which the window lies. -/
theorem truncateComputesTheCode : Obligations.TruncateComputesTheCode := by
  unfold Obligations.TruncateComputesTheCode
  intro s alg hready halg
  have hholds : HoldsTruncation alg (effDigits s) (digestBytes alg s)
      (completedState .truncate alg s) := holdsTruncation_truncate alg _
  obtain ⟨hvalid, halgUsed, hdigits, hoffset, hinfo⟩ :=
    info_of_holdsTruncation (effDigits_bounds s).2 hholds
  refine ⟨_, _, truncateIsAccepted s hready, engineStep_startLong halg,
    hoffset.trans (truncOffset_digestBytes alg s), fun b => ?_, code_of_holdsTruncation hholds,
    hvalid, halgUsed, hdigits, truncOffset_digestBytes alg s ▸ hinfo,
    asc_of_holdsTruncation hholds, rfl, completedState_frame .truncate alg s⟩
  rw [hoffset, ← byteAt_digestBytes_window]
  exact extractLsb'_truncDbc alg (digestBytes alg s) b

/-- Settles O36: TRUNCATE reads back the keyed hash that HMAC wrote, and so writes what GENERATE does. -/
theorem hmacThenTruncateIsGenerate : Obligations.HmacThenTruncateIsGenerate := by
  unfold Obligations.HmacThenTruncateIsGenerate
  intro s hready
  have ⟨_, _, _, hsupported⟩ := hready
  obtain ⟨alg, halg⟩ :=
    Option.ne_none_iff_exists'.1 (mt (algOperand_eq_none_iff s).1 hsupported)
  have hdigest : digestBytes alg (completedState .hmac alg s) = engineHmac alg s :=
    digestBytes_of_dig (engineHmac_length alg s) rfl
  refine ⟨_, _, _, _, _, _, hmacIsAccepted s hready, engineStep_startLong halg,
    truncateIsAccepted (completedState .hmac alg s) ⟨rfl, hsupported⟩,
    engineStep_startLong (s := completedState .hmac alg s) halg, generateIsAccepted s hready,
    engineStep_startLong halg, ?_⟩
  rw [completedState_truncate, hdigest, completedState_hmac, completedState_generate]
  rfl

/-! ### What a completion depends on -/

theorem sameResult_of_holdsTruncation {alg : Alg} {d : Nat} {h : List Byte} {t t' : State}
    (ht : HoldsTruncation alg d h t) (ht' : HoldsTruncation alg d h t') : SameResult t t' := by
  obtain ⟨hcode, hdbc, hinfo, hasc⟩ := ht
  rwa [SameResult, hcode, hdbc, hinfo, hasc]

/-- GENERATE's results are a function of its operands (R105, R131). -/
theorem sameResult_generate {alg : Alg} {s s' : State}
    (hhash : engineHmac alg s = engineHmac alg s') (hd : effDigits s = effDigits s') :
    SameResult (writeOutputs .generate alg s) (writeOutputs .generate alg s') := by
  have h' := holdsTruncation_generate alg s'
  rw [← hhash, ← hd] at h'
  exact sameResult_of_holdsTruncation (holdsTruncation_generate alg s) h'

/-- TRUNCATE's results are a function of its operands (R105, R131). -/
theorem sameResult_truncate {alg : Alg} {s s' : State}
    (hdigest : digestBytes alg s = digestBytes alg s') (hd : effDigits s = effDigits s') :
    SameResult (writeOutputs .truncate alg s) (writeOutputs .truncate alg s') := by
  have h' := holdsTruncation_truncate alg s'
  rw [← hdigest, ← hd] at h'
  exact sameResult_of_holdsTruncation (holdsTruncation_truncate alg s) h'

/-- GENERATE and HMAC write the keyed hash to DIG (R123, R124, R128). -/
theorem writeOutputs_dig {op : LongOp} (hop : op ≠ .truncate) (alg : Alg) (s : State) :
    (writeOutputs op alg s).dig = zeroFilled 64 (hlen alg) (engineHmac alg s) := by
  cases op with
  | truncate => exact absurd rfl hop
  | _ => rfl

/-- What a command in progress answers at its completion, with the algorithm that CTRL selects (R121). -/
theorem engineStep_next_of_busy {op : LongOp} {s t : State} (hbusy : s.phase = .busy op)
    (h : engineStep s = .next t) :
    ∃ alg, algOperand s = some alg ∧ t = finishLong (writeOutputs op alg s) := by
  obtain ⟨hidle, -⟩ | ⟨op', alg, hop, halg, rfl⟩ := engineStep_cases h
  · cases hbusy.symm.trans hidle
  · obtain rfl := Phase.busy.inj (hbusy.symm.trans hop)
    exact ⟨alg, halg, rfl⟩

/-- Settles O33: the two completions take the same algorithm, and each command's outputs are a function of its operands. -/
theorem resultsArePureFunctionsOfTheOperands :
    Obligations.ResultsArePureFunctionsOfTheOperands := by
  unfold Obligations.ResultsArePureFunctionsOfTheOperands
  intro op s s' t t' hbusy hbusy' halgField hdigits hkeyed hdigest h h'
  obtain ⟨alg, halg, rfl⟩ := engineStep_next_of_busy hbusy h
  obtain ⟨alg', halg', rfl⟩ := engineStep_next_of_busy hbusy' h'
  obtain rfl : alg = alg' := by
    rw [algOperand, ← halgField] at halg'
    exact Option.some.inj (halg.symm.trans halg')
  have hhash (hop : op ≠ .truncate) : engineHmac alg s = engineHmac alg s' := by
    obtain ⟨hlen, hhi, hlo, hkey⟩ := hkeyed hop
    exact engineHmac_congr (keyBytes_congr hlen hkey) hhi hlo alg
  refine ⟨?_, fun hop => ?_⟩
  · cases op with
    | generate => exact sameResult_generate (hhash nofun) (effDigits_congr (hdigits nofun))
    | hmac => exact ⟨rfl, rfl, rfl, rfl⟩
    | truncate =>
      exact sameResult_truncate (toList_take_congr (hdigest rfl alg halg))
        (effDigits_congr (hdigits nofun))
  · rw [finishLong_dig, finishLong_dig, writeOutputs_dig hop, writeOutputs_dig hop, hhash hop]

end Sys2Proof.Safety
end

section
/-! The results and the digest persist (R132): which steps change them. -/

namespace Sys2Proof.Machine

/-- Of the operand registers only DIGEST words are stored in DIG (R76). -/
theorem operandWrite_dig_of_ne {r : Reg} (v : Word) (s : State) (h : ∀ j, r ≠ .digest j) :
    (operandWrite r v s).dig = s.dig := by
  cases r with
  | digest j => exact absurd rfl (h j)
  | _ => rfl

/-- The completion of TRUNCATE keeps the digest (R125). -/
theorem writeOutputs_truncate_dig (alg : Alg) (s : State) :
    (writeOutputs .truncate alg s).dig = s.dig := rfl

/-- The commands whose checks can fail are the long ones (R120). -/
theorem eq_of_commandError {i : Instr} {s : State} {e : ErrCode} (h : commandError i s = some e) :
    i = .generate ∨ i = .hmac ∨ i = .truncate := by
  cases i with
  | nop => cases h
  | clear => cases h
  | _ => simp

end Sys2Proof.Machine

namespace Sys2Proof.Safety
open Sys2Proof.Machine

/-- A step keeps the results unless it completes, clears, fails or resets (R132). -/
theorem sameResult_or_cause {s t : State} (h : step s = .next t) :
    SameResult s t
      ∨ (EngineTurn s ∧ s.phase ≠ .idle) ∨ ResetTurn s ∨ AcceptTurn .clear s
      ∨ (t.errFlag = true ∧
        (AcceptTurn .generate s ∨ AcceptTurn .hmac s ∨ AcceptTurn .truncate s)) := by
  have hsame : SameResult s s := ⟨rfl, rfl, rfl, rfl⟩
  cases stepKind_of_step h with
  | waits hturn hidle => exact .inl hsame
  | completes op alg hturn hbusy halg => exact .inr (.inl ⟨hturn, by simp [hbusy]⟩)
  | resets hturn => exact .inr (.inr (.inl hturn))
  | reads r hturn => exact .inl hsame
  | clearsFlags v hturn => exact .inl hsame
  | setsOperand r v hturn hr hidle =>
    obtain ⟨-, -, -, -, -, hcode, hdbc, hinfo, hasc, -⟩ :=
      operandWrite_frame r v { s with pending := s.pending.tail }
    exact .inl ⟨hcode, hdbc, hinfo, hasc⟩
  | ignores r v hturn hr hstatus hcmd => exact .inl hsame
  | drops hturn => exact .inl hsame
  | nops hturn => exact .inl hsame
  | clears hturn => exact .inr (.inr (.inr (.inl hturn)))
  | starts i op hturn hop hready => exact .inl hsame
  | fails i e hturn herror =>
    refine .inr (.inr (.inr (.inr ⟨rfl, ?_⟩)))
    obtain rfl | rfl | rfl := eq_of_commandError herror
    · exact .inl hturn
    · exact .inr (.inl hturn)
    · exact .inr (.inr hturn)
  | rejects hturn => exact .inl hsame

/-- A step keeps the digest unless it completes GENERATE or HMAC, clears, fails one of the two, resets, or writes DIGEST while IDLE (R132). -/
theorem dig_eq_or_cause {s t : State} (h : step s = .next t) :
    t.dig = s.dig
      ∨ (EngineTurn s ∧ (s.phase = .busy .generate ∨ s.phase = .busy .hmac))
      ∨ ResetTurn s ∨ AcceptTurn .clear s
      ∨ (t.errFlag = true ∧ (AcceptTurn .generate s ∨ AcceptTurn .hmac s))
      ∨ (s.phase = .idle ∧ ∃ j v, WriteTurn (.digest j) v s) := by
  cases stepKind_of_step h with
  | waits hturn hidle => exact .inl rfl
  | completes op alg hturn hbusy halg =>
    cases op with
    | truncate => exact .inl (writeOutputs_truncate_dig alg _)
    | generate => exact .inr (.inl ⟨hturn, .inl hbusy⟩)
    | hmac => exact .inr (.inl ⟨hturn, .inr hbusy⟩)
  | resets hturn => exact .inr (.inr (.inl hturn))
  | reads r hturn => exact .inl rfl
  | clearsFlags v hturn => exact .inl rfl
  | setsOperand r v hturn hr hidle =>
    by_cases hdigest : ∃ j, r = .digest j
    · obtain ⟨j, rfl⟩ := hdigest
      exact .inr (.inr (.inr (.inr (.inr ⟨hidle, j, v, hturn⟩))))
    · exact .inl (operandWrite_dig_of_ne v _ fun j hj => hdigest ⟨j, hj⟩)
  | ignores r v hturn hr hstatus hcmd => exact .inl rfl
  | drops hturn => exact .inl rfl
  | nops hturn => exact .inl rfl
  | clears hturn => exact .inr (.inr (.inr (.inl hturn)))
  | starts i op hturn hop hready => exact .inl rfl
  | fails i e hturn herror =>
    obtain rfl | rfl | rfl := eq_of_commandError herror
    · exact .inr (.inr (.inr (.inr (.inl ⟨rfl, .inl hturn⟩))))
    · exact .inr (.inr (.inr (.inr (.inl ⟨rfl, .inr hturn⟩))))
    · exact .inl (raiseError_truncate_dig e _)
  | rejects hturn => exact .inl rfl

/-- Settles O34: the results and the digest each have their own causes of change, one per kind of step. -/
theorem resultsPersist : Obligations.ResultsPersist := by
  unfold Obligations.ResultsPersist
  exact fun s t h => ⟨sameResult_or_cause h, dig_eq_or_cause h⟩

end Sys2Proof.Safety
end

section
/-! The HMAC construction: the bytes of its message and key (R150, R151), the padded key (R152-R155, R158), and the sizes of what it hashes (R157, R172, R173, R291). -/

namespace Sys2Proof.Machine

/-! ### The message (R150) -/

/-- The bytes of a word, the most significant first (R8). -/
theorem bytesBE_toNat {w : Nat} (v : BitVec w) (n : Nat) :
    bytesBE v.toNat n = (List.range n).map fun i => v.extractLsb' (8 * (n - 1 - i)) 8 := rfl

/-- Of two values side by side the left one's bytes come first (R8). -/
theorem bytesBE_append {m n : Nat} (x : BitVec (8 * m)) (y : BitVec (8 * n)) :
    bytesBE (x ++ y).toNat (m + n) = bytesBE x.toNat m ++ bytesBE y.toNat n := by
  simp only [bytesBE_toNat, List.range_add, List.map_append, List.map_map]
  congr 1 <;> refine List.map_congr_left fun i hi => ?_ <;> rw [List.mem_range] at hi
  · rw [BitVec.extractLsb'_append_eq_of_le (by omega)]
    congr 1
    omega
  · rw [Function.comp_apply, BitVec.extractLsb'_append_eq_of_add_le (by omega)]
    congr 1
    omega

/-- The message is CNT_HI's four bytes, then CNT_LO's (R38, R150). -/
theorem counterMessage_eq_append (s : State) :
    counterMessage s = bytesBE s.cntHi.toNat 4 ++ bytesBE s.cntLo.toNat 4 :=
  bytesBE_append (m := 4) (n := 4) s.cntHi s.cntLo

/-! ### The key operand (R151) -/

/-- An empty key fails the first check of GENERATE and HMAC (R120, R158). -/
theorem keyedCommandError_of_keyLen_eq_zero {s : State} (h : s.keyLen = 0) :
    keyedCommandError s = some .missingKey := by
  rw [keyedCommandError, if_pos (by rw [h]; rfl)]

theorem keyBytes_length {s : State} (h : s.keyLen.toNat ≤ 256) :
    (keyBytes s).length = s.keyLen.toNat := by
  simp [keyBytes, h]

theorem keyBytes_getElem? (s : State) (i : Fin 256) (h : i.val < s.keyLen.toNat) :
    (keyBytes s)[i.val]? = some s.key[i] := by
  simp [keyBytes, h]

/-! ### The padded key (R152, R153) -/

theorem prehashKey_of_lt {alg : Alg} {k : List Byte} (h : blockBytes alg < k.length) :
    prehashKey alg k = hashOf alg k := if_pos h

theorem prehashKey_of_le {alg : Alg} {k : List Byte} (h : k.length ≤ blockBytes alg) :
    prehashKey alg k = k := if_neg h.not_gt

/-- A hash is no longer than a block, so the key to be padded never is (R152). -/
theorem prehashKey_length_le (alg : Alg) (k : List Byte) :
    (prehashKey alg k).length ≤ blockBytes alg := by
  obtain h | h := Nat.lt_or_ge (blockBytes alg) k.length
  · rw [prehashKey_of_lt h, hashOf_length]
    exact hlen_le_blockBytes alg
  · rwa [prehashKey_of_le h]

theorem padKey_length (alg : Alg) (k : List Byte) : (padKey alg k).length = blockBytes alg := by
  rw [padKey, List.length_append, List.length_replicate,
    Nat.add_sub_cancel' (prehashKey_length_le alg k)]

theorem padKey_of_le {alg : Alg} {k : List Byte} (h : k.length ≤ blockBytes alg) :
    padKey alg k = k ++ List.replicate (blockBytes alg - k.length) 0 := by
  rw [padKey, prehashKey_of_le h]

/-- Bytes added within the block stand where zeros stood, so K0 stays exactly if they are zeros (R158). -/
theorem padKey_append_eq_iff {alg : Alg} {k e : List Byte} (h : (k ++ e).length ≤ blockBytes alg) :
    padKey alg (k ++ e) = padKey alg k ↔ ∀ b ∈ e, b = 0 := by
  have hlength := List.length_append (as := k) (bs := e)
  have hsplit : blockBytes alg - k.length
      = e.length + (blockBytes alg - (k ++ e).length) := by omega
  rw [padKey_of_le h, padKey_of_le (k := k) (by omega), hsplit, List.replicate_add,
    List.append_assoc, List.append_cancel_left_eq, List.append_cancel_right_eq,
    List.eq_replicate_iff]
  exact and_iff_right rfl

/-- A key longer than the block and its hash have the same K0 (R158). -/
theorem padKey_hashOf {alg : Alg} {k : List Byte} (h : blockBytes alg < k.length) :
    padKey alg (hashOf alg k) = padKey alg k := by
  have hle : (hashOf alg k).length ≤ blockBytes alg :=
    hashOf_length alg k ▸ hlen_le_blockBytes alg
  rw [padKey, padKey, prehashKey_of_lt h, prehashKey_of_le hle]

/-! ### The hashed messages (R154, R155, R157) -/

/-- The HMAC reads the key through K0 alone (R155). -/
theorem hmac_congr {alg : Alg} {k k' : List Byte} (h : padKey alg k = padKey alg k')
    (m : List Byte) : hmac alg k m = hmac alg k' m := by
  rw [hmac, hmac, outerInput, outerInput, innerInput, innerInput, h]

/-- The pad is the constant repeated to the length of K0 (R154). -/
theorem xorPad_eq_zipWith (pad : Byte) (k0 : List Byte) :
    xorPad pad k0 = k0.zipWith (· ^^^ ·) (List.replicate k0.length pad) := by
  rw [← List.map_const', List.zipWith_map_right, List.zipWith_self, xorPad]

theorem innerInput_length (alg : Alg) (k m : List Byte) :
    (innerInput alg k m).length = blockBytes alg + m.length := by
  rw [innerInput, List.length_append, xorPad_length, padKey_length]

theorem outerInput_length (alg : Alg) (k m : List Byte) :
    (outerInput alg k m).length = blockBytes alg + hlen alg := by
  rw [outerInput, List.length_append, xorPad_length, padKey_length, hashOf_length]

/-! ### Compression calls (R172, R173, R291) -/

theorem splitBlocks_length (size n : Nat) (x : List Byte) :
    (splitBlocks size n x).length = n := by
  induction n generalizing x with
  | zero => rfl
  | succ n ih => rw [splitBlocks, List.length_cons, ih]

/-- A hash compresses the blocks of its padded message (R173). -/
theorem messageBlocks_length (alg : Alg) (w : Nat) (x : List Byte) :
    (messageBlocks w (blockBytes alg) (lengthBytes alg) x).length
      = compressionCalls alg x.length := by
  rw [messageBlocks, List.length_map, splitBlocks_length, padMessage_length, compressionCalls]

/-- The padding rounds the message, its end mark and its length field up to whole blocks (R172). -/
theorem compressionCalls_eq_ceil (alg : Alg) (len : Nat) :
    compressionCalls alg len
      = (len + 1 + lengthBytes alg + (blockBytes alg - 1)) / blockBytes alg := by
  unfold compressionCalls padZeros
  cases alg <;> dsimp only [blockBytes, lengthBytes] <;> omega

end Sys2Proof.Machine

namespace Sys2Proof.Safety
open Sys2Proof.Machine

/-- Settles O49: the counter is CNT_HI before CNT_LO, and each word gives its own four bytes. -/
theorem counterMessageIsBigEndian : Obligations.CounterMessageIsBigEndian := by
  unfold Obligations.CounterMessageIsBigEndian
  exact counterMessage_eq_append

/-- Settles O52: the padded key has the block's length, so each pad is the block of its constant. -/
theorem hmacConstruction : Obligations.HmacConstruction := by
  unfold Obligations.HmacConstruction
  intro alg k m
  refine ⟨fun hlong => ?_, prehashKey_of_le, rfl, padKey_length alg k, ?_, rfl, rfl, rfl⟩
  · rw [prehashKey_of_lt hlong]
    exact ⟨rfl, hashOf_length alg k⟩
  · rw [hmac, outerInput, innerInput, xorPad_eq_zipWith, xorPad_eq_zipWith, padKey_length]

/-- Settles O53: KEY_LEN = 0 fails the first check, and keys with the same K0 have the same HMAC. -/
theorem hmacKeyEquivalences : Obligations.HmacKeyEquivalences := by
  unfold Obligations.HmacKeyEquivalences
  refine ⟨fun s i hidle hkey hi => ?_, fun alg k e => padKey_append_eq_iff,
    fun alg k m n hle => ?_, fun alg k m hlong => hmac_congr (padKey_hashOf hlong) m⟩
  · have herror : commandError i s = some .missingKey := by
      obtain rfl | rfl := hi <;> exact keyedCommandError_of_keyLen_eq_zero hkey
    exact ⟨_, exec_of_error hidle herror, rfl, rfl⟩
  · refine hmac_congr ((padKey_append_eq_iff ?_).2 fun b => List.eq_of_mem_replicate) m
    rwa [List.length_append, List.length_replicate]

/-- Settles O54: the padded key has the block's length, and the padding rounds up to whole blocks. -/
theorem hashedMessageSizes : Obligations.HashedMessageSizes := by
  unfold Obligations.HashedMessageSizes
  refine ⟨fun s alg hlen => ⟨keyBytes_length hlen, keyBytes_getElem? s, ?_,
    outerInput_length alg _ _, ?_, ?_, compressionCalls_eq_ceil alg _⟩,
    fun x => ⟨messageBlocks_length .sha1 32 x, messageBlocks_length .sha256 32 x,
      messageBlocks_length .sha512 64 x⟩, rfl, rfl, rfl⟩
  · rw [innerInput_length, counterMessage, bytesBE_length]
  · cases alg <;> rfl
  · cases alg <;> rfl

end Sys2Proof.Safety
end

section
/-! SHA-1, SHA-256 and SHA-512: the message schedules (R182, R193, R203), the padding (R172), the blocks and their words (R173), and the check digests (R184, R195, R205). -/

namespace Sys2Proof.Machine

/-! ### Schedules (R182, R193, R203) -/

/-- One more word in front of a schedule kept newest first. -/
def growSchedule {α : Type} (next : List α → α) (ws : List α) : List α := next ws :: ws

/-- The schedule of the words `m` and `n` more, each `next` of the words before it, newest first. -/
def scheduleBy {α : Type} (next : List α → α) (n : Nat) (m : List α) : List α :=
  ((growSchedule next)^[n] m.reverse).reverse

/-- W_t of SHA-1 from the words before it, newest first (R182). -/
def sha1Next (ws : List Word) : Word :=
  (ws.getD 2 0 ^^^ ws.getD 7 0 ^^^ ws.getD 13 0 ^^^ ws.getD 15 0).rotateLeft 1

/-- W_t of SHA-256 or SHA-512 from the words before it, newest first (R193, R203). -/
def sha2Next {w : Nat} (kind : Sha2Kind w) (ws : List (BitVec w)) : BitVec w :=
  kind.smallSigma1 (ws.getD 1 0) + ws.getD 6 0 + kind.smallSigma0 (ws.getD 14 0) + ws.getD 15 0

theorem sha1Extend_eq_iterate (n : Nat) (ws : List Word) :
    sha1Extend n ws = (growSchedule sha1Next)^[n] ws := by
  induction n generalizing ws with
  | zero => rfl
  | succ n ih => exact ih _

theorem sha2Extend_eq_iterate {w : Nat} (kind : Sha2Kind w) (n : Nat) (ws : List (BitVec w)) :
    sha2Extend kind n ws = (growSchedule (sha2Next kind))^[n] ws := by
  induction n generalizing ws with
  | zero => rfl
  | succ n ih => exact ih _

theorem sha1Schedule_eq (m : List Word) : sha1Schedule m = scheduleBy sha1Next 64 m := by
  rw [sha1Schedule, sha1Extend_eq_iterate, scheduleBy]

theorem sha2Schedule_eq {w : Nat} (kind : Sha2Kind w) (m : List (BitVec w)) :
    sha2Schedule kind m = scheduleBy (sha2Next kind) (kind.constants.length - 16) m := by
  rw [sha2Schedule, sha2Extend_eq_iterate, scheduleBy]

section
variable {α : Type} (next : List α → α) (n : Nat) (m : List α)

theorem scheduleBy_zero : scheduleBy next 0 m = m := List.reverse_reverse m

/-- In order of t, a new word stands behind the words it is computed from. -/
theorem scheduleBy_succ :
    scheduleBy next (n + 1) m
      = scheduleBy next n m ++ [next (scheduleBy next n m).reverse] := by
  simp only [scheduleBy, Function.iterate_succ_apply', growSchedule, List.reverse_cons,
    List.reverse_reverse]

theorem scheduleBy_length : (scheduleBy next n m).length = m.length + n := by
  induction n with
  | zero => rw [scheduleBy_zero, Nat.add_zero]
  | succ n ih => rw [scheduleBy_succ, List.length_append, ih, List.length_singleton, Nat.add_assoc]

/-- The new words leave the first ones in place. -/
theorem scheduleBy_take : (scheduleBy next n m).take m.length = m := by
  induction n with
  | zero => rw [scheduleBy_zero, List.take_length]
  | succ n ih =>
    rw [scheduleBy_succ, List.take_append_of_le_length (by rw [scheduleBy_length]; omega), ih]

/-- Every word after those of `m` is `next` of the words before it, in the finished schedule. -/
theorem scheduleBy_getD (d : α) {t : Nat} (hm : m.length ≤ t) (ht : t < m.length + n) :
    (scheduleBy next n m).getD t d = next ((scheduleBy next n m).take t).reverse := by
  induction n with
  | zero => omega
  | succ n ih =>
    have hlength := scheduleBy_length next n m
    rw [scheduleBy_succ]
    obtain rfl | hearlier : t = m.length + n ∨ t < m.length + n := by omega
    · rw [List.getD_append_right _ _ _ _ hlength.le, List.take_left' hlength, hlength,
        Nat.sub_self, List.getD_cons_zero]
    · rw [List.getD_append _ _ _ _ (by omega), List.take_append_of_le_length (by omega),
        ih hearlier]

end

/-- Newest first, entry k of the first t words is word t-1-k. -/
theorem getD_reverse_take {α : Type} (l : List α) (d : α) {t k : Nat} (hk : k < t)
    (ht : t ≤ l.length) : (l.take t).reverse.getD k d = l.getD (t - (k + 1)) d := by
  simp only [List.getD_eq_getElem?_getD]
  rw [List.getElem?_reverse (by rw [List.length_take]; omega), List.getElem?_take_of_lt
    (by rw [List.length_take]; omega), List.length_take_of_le ht, Nat.sub_sub, Nat.add_comm 1]

/-- R182: the recurrence of SHA-1's schedule. -/
theorem sha1Schedule_getD {m : List Word} (hm : m.length = 16) {t : Nat} (h16 : 16 ≤ t)
    (ht : t < 80) :
    (sha1Schedule m).getD t 0
      = ((sha1Schedule m).getD (t - 3) 0 ^^^ (sha1Schedule m).getD (t - 8) 0
        ^^^ (sha1Schedule m).getD (t - 14) 0 ^^^ (sha1Schedule m).getD (t - 16) 0).rotateLeft 1 := by
  have hlength := scheduleBy_length sha1Next 64 m
  rw [sha1Schedule_eq, scheduleBy_getD _ _ _ _ (by omega) (by omega), sha1Next]
  simp (disch := omega) only [getD_reverse_take]

/-- R193, R203: the schedule has a word for each constant, begins with the block, and follows its recurrence. -/
theorem sha2Schedule_spec {w : Nat} (kind : Sha2Kind w) (hkind : 16 ≤ kind.constants.length)
    {m : List (BitVec w)} (hm : m.length = 16) :
    (sha2Schedule kind m).length = kind.constants.length ∧ (sha2Schedule kind m).take 16 = m
      ∧ ∀ t, 16 ≤ t → t < kind.constants.length →
        (sha2Schedule kind m).getD t 0
          = kind.smallSigma1 ((sha2Schedule kind m).getD (t - 2) 0)
            + (sha2Schedule kind m).getD (t - 7) 0
            + kind.smallSigma0 ((sha2Schedule kind m).getD (t - 15) 0)
            + (sha2Schedule kind m).getD (t - 16) 0 := by
  rw [sha2Schedule_eq]
  have hlength := scheduleBy_length (sha2Next kind) (kind.constants.length - 16) m
  refine ⟨by omega, hm ▸ scheduleBy_take _ _ m, fun t h16 ht => ?_⟩
  rw [scheduleBy_getD _ _ _ _ (by omega) (by omega), sha2Next]
  simp (disch := omega) only [getD_reverse_take]

/-! ### Padding (R172) -/

theorem padZeros_lt {block : Nat} (h : 0 < block) (lb len : Nat) : padZeros block lb len < block :=
  Nat.mod_lt _ h

/-- The zeros fill up the last block. -/
theorem padMessage_length_mod {block : Nat} (h : 0 < block) (lb : Nat) (x : List Byte) :
    (padMessage block lb x).length % block = 0 := by
  have hrest := Nat.mod_lt (x.length + 1 + lb) h
  rw [padMessage_length, padZeros, Nat.add_right_comm, Nat.add_mod_mod, ← Nat.mod_add_mod,
    Nat.add_sub_cancel' hrest.le, Nat.mod_self]

/-- Numbers of zeros that fill up the last block agree modulo the block, and `padZeros` is below it. -/
theorem padZeros_le {block : Nat} (h : 0 < block) {lb : Nat} (x : List Byte) {z : Nat}
    (hz : (x.length + 1 + z + lb) % block = 0) : padZeros block lb x.length ≤ z := by
  have hpad := padMessage_length_mod h lb x
  rw [padMessage_length] at hpad
  have hsame : padZeros block lb x.length ≡ z [MOD block] :=
    Nat.ModEq.add_left_cancel' (x.length + 1) (Nat.ModEq.add_right_cancel' lb (hpad.trans hz.symm))
  calc padZeros block lb x.length
      = padZeros block lb x.length % block := (Nat.mod_eq_of_lt (padZeros_lt h _ _)).symm
    _ = z % block := hsame
    _ ≤ z := Nat.mod_le z block

theorem blockBytes_pos (alg : Alg) : 0 < blockBytes alg := by cases alg <;> decide

/-! ### Blocks and their words (R173) -/

theorem splitBlocks_getElem? (size n : Nat) (x : List Byte) {b : Nat} (h : b < n) :
    (splitBlocks size n x)[b]? = some ((x.drop (size * b)).take size) := by
  induction n generalizing x b with
  | zero => omega
  | succ n ih =>
    cases b with
    | zero => rfl
    | succ b =>
      rw [splitBlocks, List.getElem?_cons_succ, ih _ (Nat.lt_of_succ_lt_succ h), List.drop_drop,
        Nat.mul_succ, Nat.add_comm size]

theorem blockWords_length (w : Nat) (bs : List Byte) : (blockWords w bs).length = 16 := by
  rw [blockWords, List.length_map, List.length_range]

theorem blockWords_getD (w : Nat) (bs : List Byte) {t : Nat} (h : t < 16) :
    (blockWords w bs).getD t 0
      = BitVec.ofNat w (natBE ((bs.drop (t * (w / 8))).take (w / 8))) := by
  simp [blockWords, h]

theorem messageBlocks_length_eq (w block lb : Nat) (x : List Byte) :
    (messageBlocks w block lb x).length = (padMessage block lb x).length / block := by
  rw [messageBlocks, List.length_map, splitBlocks_length]

theorem eq_blockWords_of_messageBlocks {w block lb : Nat} {x : List Byte} {b : Nat}
    {ws : List (BitVec w)} (h : (messageBlocks w block lb x)[b]? = some ws) :
    ws = blockWords w (((padMessage block lb x).drop (block * b)).take block) := by
  have hb := (List.getElem?_eq_some_iff.1 h).1
  rw [messageBlocks_length_eq] at hb
  rw [messageBlocks, List.getElem?_map, splitBlocks_getElem? _ _ _ hb] at h
  exact (Option.some.inj h).symm

end Sys2Proof.Machine

namespace Sys2Proof.Safety
open Sys2Proof.Machine

/-- Settles O47: the schedules grow by one word at a time, each the recurrence of the words before it. -/
theorem schedulesFollowTheirRecurrences : Obligations.SchedulesFollowTheirRecurrences := by
  unfold Obligations.SchedulesFollowTheirRecurrences
  refine ⟨fun m hm => ⟨?_, ?_, fun t => sha1Schedule_getD hm⟩,
    fun m => sha2Schedule_spec sha256Kind (by decide),
    fun m => sha2Schedule_spec sha512Kind (by decide)⟩
  · rw [sha1Schedule_eq, scheduleBy_length, hm]
  · rw [sha1Schedule_eq, ← hm, scheduleBy_take]

/-- Settles O48: block b of a padded message is its b-th run of bytes, read as 16 words. -/
theorem messageWordsAreBigEndian : Obligations.MessageWordsAreBigEndian := by
  unfold Obligations.MessageWordsAreBigEndian
  intro w block lb x _
  refine ⟨messageBlocks_length_eq w block lb x, fun b ws hws => ?_⟩
  rw [eq_blockWords_of_messageBlocks hws]
  exact ⟨blockWords_length w _, fun t => blockWords_getD w _⟩

/-- Settles O50: the number of zeros is `padZeros`, which fills up the last block and is below a block. -/
theorem paddingIsLeast : Obligations.PaddingIsLeast := by
  unfold Obligations.PaddingIsLeast
  intro alg x
  exact ⟨padZeros (blockBytes alg) (lengthBytes alg) x.length, rfl,
    padMessage_length_mod (blockBytes_pos alg) _ x, fun _ => padZeros_le (blockBytes_pos alg) x⟩

/-- Settles O46: the kernel computes each digest, as it does the model's own tests. -/
theorem hashesOfCheckMessages : Obligations.HashesOfCheckMessages := by
  unfold Obligations.HashesOfCheckMessages
  refine ⟨?_, ?_, ?_, ?_, ?_, ?_⟩ <;> decide +kernel

end Sys2Proof.Safety
end

section
/-! The dynamic truncation unit (R210-R218): its window, its remainder, its shortest decimal text, and what it depends on. -/

namespace Sys2Proof.Machine

/-! ### The window (R210-R212) -/

/-- The offset is the last byte mod 16 (R210). -/
theorem truncOffset_eq_mod (alg : Alg) (h : List Byte) :
    truncOffset alg h = (h.getD (hlen alg - 1) 0).toNat % 16 := by
  rw [truncOffset, BitVec.toNat_and, byteAt]
  exact Nat.and_two_pow_sub_one_eq_mod _ 4

/-- The window ends below the offset byte, for the shortest digest too (R211). -/
theorem truncOffset_add_three_lt (alg : Alg) (h : List Byte) :
    truncOffset alg h + 3 < hlen alg - 1 := by
  have hoff := truncOffset_lt alg h
  have hlen := hlen_ge alg
  omega

/-- D is the window's four bytes, the first mod 128 (R212). -/
theorem truncDbc_toNat (alg : Alg) (h : List Byte) :
    (truncDbc alg h).toNat
      = (byteAt h (truncOffset alg h)).toNat % 128 * 2 ^ 24
        + (byteAt h (truncOffset alg h + 1)).toNat * 2 ^ 16
        + (byteAt h (truncOffset alg h + 2)).toNat * 2 ^ 8
        + (byteAt h (truncOffset alg h + 3)).toNat := by
  have hclear : (byteAt h (truncOffset alg h) &&& 0x7F).toNat
      = (byteAt h (truncOffset alg h)).toNat % 128 := by
    rw [BitVec.toNat_and]
    exact Nat.and_two_pow_sub_one_eq_mod _ 7
  rw [truncDbc, be32_toNat, hclear]

/-! ### The remainder and its text (R214, R215) -/

theorem truncCode_lt (dbc : Word) (d : Nat) : (truncCode dbc d).toNat < 10 ^ d := by
  rw [truncCode_toNat]
  exact Nat.mod_lt _ (by positivity)

theorem asciiDigit_eq_zero_iff {n : Nat} (h : n < 10) : asciiDigit n = 0x30 ↔ n = 0 := by
  rw [← BitVec.toNat_inj, asciiDigit_toNat h]
  simp

theorem decimalDigits_ne_nil (fuel n : Nat) : decimalDigits fuel n ≠ [] := by
  cases fuel with
  | zero => simp [decimalDigits]
  | succ fuel =>
    unfold decimalDigits
    split_ifs <;> simp

/-- Only 0 is written with a leading zero (R215). -/
theorem eq_zero_of_head?_decimalDigits {fuel n : Nat} (h : n < 10 ^ (fuel + 1))
    (hhead : (decimalDigits fuel n).head? = some 0x30) : n = 0 := by
  induction fuel generalizing n with
  | zero =>
    have hlt : n < 10 := by simpa using h
    rw [decimalDigits, Nat.mod_eq_of_lt hlt, List.head?_singleton, Option.some_inj] at hhead
    exact (asciiDigit_eq_zero_iff hlt).1 hhead
  | succ fuel ih =>
    unfold decimalDigits at hhead
    split_ifs at hhead with hlt
    · exact (asciiDigit_eq_zero_iff hlt).1 (Option.some.inj hhead)
    · rw [List.head?_append_of_ne_nil _ (decimalDigits_ne_nil _ _)] at hhead
      have hzero : n / 10 = 0 := ih (by omega) hhead
      omega

theorem eq_zero_of_head?_digitsOf {code : Word} (h : (digitsOf code).head? = some 0x30) :
    code = 0 :=
  BitVec.eq_of_toNat_eq (eq_zero_of_head?_decimalDigits (code.isLt.trans (by decide)) h)

/-! ### What the unit depends on (R218) -/

theorem truncOffset_congr {alg : Alg} {h h' : List Byte}
    (hlast : (h.getD (hlen alg - 1) 0).toNat % 16 = (h'.getD (hlen alg - 1) 0).toNat % 16) :
    truncOffset alg h = truncOffset alg h' := by
  rw [truncOffset_eq_mod, truncOffset_eq_mod, hlast]

/-- D reads the window alone, and of its first byte bits 6:0. -/
theorem truncDbc_congr {alg : Alg} {h h' : List Byte}
    (hoff : truncOffset alg h = truncOffset alg h')
    (hfirst : (byteAt h (truncOffset alg h)).toNat % 128
      = (byteAt h' (truncOffset alg h)).toNat % 128)
    (hrest : ∀ b, 1 ≤ b → b < 4 →
      byteAt h (truncOffset alg h + b) = byteAt h' (truncOffset alg h + b)) :
    truncDbc alg h = truncDbc alg h' := by
  apply BitVec.eq_of_toNat_eq
  rw [truncDbc_toNat, truncDbc_toNat, ← hoff, hfirst, hrest 1 (by decide) (by decide),
    hrest 2 (by decide) (by decide), hrest 3 (by decide) (by decide)]

theorem truncateDigest_congr {alg : Alg} {h h' : List Byte}
    (hoff : truncOffset alg h = truncOffset alg h') (hdbc : truncDbc alg h = truncDbc alg h')
    (d : Nat) : truncateDigest alg h d = truncateDigest alg h' d := by
  rw [truncateDigest, truncateDigest, hoff, hdbc]

end Sys2Proof.Machine

namespace Sys2Proof.Safety
open Sys2Proof.Machine

/-- Settles O56: the offset is a byte mod 16, and the shortest digest has 20 bytes. -/
theorem windowIsInsideTheDigest : Obligations.WindowIsInsideTheDigest := by
  unfold Obligations.WindowIsInsideTheDigest
  intro alg h
  have hle : truncOffset alg h ≤ 15 := Nat.le_of_lt_succ (truncOffset_lt alg h)
  exact ⟨truncOffset_eq_mod alg h, hle, Nat.add_le_add_right hle 3, truncOffset_add_three_lt alg h⟩

/-- Settles O57: masking with 0x7F is the remainder mod 128, which keeps D below 2^31. -/
theorem dbcIsTheClearedWindow : Obligations.DbcIsTheClearedWindow := by
  unfold Obligations.DbcIsTheClearedWindow
  exact fun alg h => ⟨truncDbc_toNat alg h, truncDbc_lt alg h⟩

/-- Settles O58: the remainder fits the word, and from d = 10 the power exceeds D. -/
theorem codeIsTheExactRemainder : Obligations.CodeIsTheExactRemainder := by
  unfold Obligations.CodeIsTheExactRemainder
  intro dbc d hbit _ _
  exact ⟨truncCode_toNat dbc d, fun _ => truncCode_lt dbc d,
    truncCode_eq_self (toNat_lt_of_getLsbD_31 hbit)⟩

/-- Settles O59: a code is below 10^d, so its digits fit the text; only the code 0 leads with a zero. -/
theorem textHasExactlyDDigits : Obligations.TextHasExactlyDDigits := by
  unfold Obligations.TextHasExactlyDDigits
  intro dbc d _ hd _
  have hlt := truncCode_lt dbc d
  refine ⟨renderCode_length hlt hd, renderCode_isDigit _ d, decimalValue_renderCode _ d,
    decimalDigits_length_le hlt hd, rfl, fun hhead => ?_⟩
  have hzero : truncCode dbc d = 0 := eq_zero_of_head?_digitsOf hhead
  exact ⟨hzero, hzero ▸ rfl⟩

/-- Settles O60: the offset reads the last byte mod 16, D reads the window, and the code and the text read D and d. -/
theorem truncationDependsOnlyOnItsWindow : Obligations.TruncationDependsOnlyOnItsWindow := by
  unfold Obligations.TruncationDependsOnlyOnItsWindow
  intro alg h h' d hlast hwindow
  have hoff := truncOffset_congr hlast
  have hrest (b : Nat) (hpos : 1 ≤ b) (hb : b < 4) :
      byteAt h (truncOffset alg h + b) = byteAt h' (truncOffset alg h + b) := by
    have hbyte := hwindow ⟨b, hb⟩
    rw [if_neg (Nat.ne_of_gt hpos), Nat.mod_eq_of_lt (BitVec.isLt _),
      Nat.mod_eq_of_lt (BitVec.isLt _)] at hbyte
    exact BitVec.eq_of_toNat_eq hbyte
  have hdbc := truncDbc_congr hoff (hwindow 0) hrest
  exact ⟨truncateDigest_congr hoff hdbc d, truncOffset_add_three_lt alg h⟩

end Sys2Proof.Safety
end

section
/-! The error completions (R230-R234): what each clears (R232), and which error the acceptance checks report (R233). -/

namespace Sys2Proof.Machine

/-! ### What an error completion clears (R232) -/

/-- GENERATE and HMAC write the digest and the results, so their error completions clear both. -/
theorem raiseError_startRecord_of_keyed {i : Instr} (hi : i = .generate ∨ i = .hmac) (e : ErrCode)
    (s : State) :
    raiseError (some i) e (startRecord s)
      = { clearResult (clearDigest s) with doneFlag := true, errFlag := true, errCode := e } := by
  obtain rfl | rfl := hi <;> rfl

/-- TRUNCATE writes the results alone, so its error completion clears no more. -/
theorem raiseError_startRecord_of_truncate (e : ErrCode) (s : State) :
    raiseError (some .truncate) e (startRecord s)
      = { clearResult s with doneFlag := true, errFlag := true, errCode := e } := rfl

/-- An illegal word names no command, so its error completion clears no output. -/
theorem raiseError_startRecord_of_illegal (e : ErrCode) (s : State) :
    raiseError none e (startRecord s)
      = { s with doneFlag := true, errFlag := true, errCode := e } := rfl

/-! ### The first failing check (R233) -/

theorem keyedCommandError_of_gt {s : State} (h : 256 < s.keyLen.toNat) :
    keyedCommandError s = some .keyTooLong := by
  rw [keyedCommandError, if_neg (by omega), if_pos h]

theorem keyedCommandError_of_algField_eq {s : State} (hpos : 1 ≤ s.keyLen.toNat)
    (hle : s.keyLen.toNat ≤ 256) (halg : algField s = 3) :
    keyedCommandError s = some .unsupportedAlg := by
  rw [keyedCommandError, if_neg (by omega), if_neg (by omega),
    if_pos ((algOperand_eq_none_iff s).2 halg)]

theorem truncateError_of_algField_eq {s : State} (halg : algField s = 3) :
    truncateError s = some .unsupportedAlg := by
  rw [truncateError, if_pos ((algOperand_eq_none_iff s).2 halg)]

/-- The two commands with a key have the same checks (R120). -/
theorem commandError_of_keyed {i : Instr} (hi : i = .generate ∨ i = .hmac) (s : State) :
    commandError i s = keyedCommandError s := by
  obtain rfl | rfl := hi <;> rfl

theorem exists_longOp_of_keyed {i : Instr} (hi : i = .generate ∨ i = .hmac) :
    ∃ op, longOp i = some op := by
  obtain rfl | rfl := hi <;> exact ⟨_, rfl⟩

end Sys2Proof.Machine

namespace Sys2Proof.Safety
open Sys2Proof.Machine

/-- The error record of a state reports the outcome of the acceptance checks (R33, R35). -/
def Reports (error : Option ErrCode) (t : State) : Prop :=
  match error with
  | some e => t.errFlag = true ∧ t.errCode = e
  | none => t.errFlag = false ∧ t.errCode = .noError

/-- A long command accepted while IDLE reports what its checks found (R120, R232). -/
theorem exec_reports_commandError {i : Instr} {op : LongOp} {s : State} (hidle : s.phase = .idle)
    (hop : longOp i = some op) : ∃ t, exec i s = .next t ∧ Reports (commandError i s) t := by
  cases h : commandError i s with
  | some e => exact ⟨_, exec_of_error hidle h, rfl, rfl⟩
  | none => exact ⟨_, exec_of_start hidle hop h, rfl, rfl⟩

/-- Settles O29: each failing command answers its error completion, which clears the outputs of that command. -/
theorem errorCompletionClearsTheOutputs : Obligations.ErrorCompletionClearsTheOutputs := by
  unfold Obligations.ErrorCompletionClearsTheOutputs
  intro s e hidle
  refine ⟨fun i hi herror => ?_, fun herror => ?_, ?_⟩
  · rw [exec_of_error hidle ((commandError_of_keyed hi s).trans herror),
      raiseError_startRecord_of_keyed hi]
    rfl
  · rw [exec_of_error (i := .truncate) hidle herror, raiseError_startRecord_of_truncate]
    rfl
  · rw [execIllegal_idle hidle, raiseError_startRecord_of_illegal]

/-- Settles O30: a word above 4 is rejected before any operand is read, and the other commands report their first failing check. -/
theorem errorPriority : Obligations.ErrorPriority := by
  unfold Obligations.ErrorPriority
  refine ⟨fun s w hidle hw => ?_, fun s i hidle hi => ?_, fun s hidle => ?_⟩
  · cases hd : decodeCommand w with
    | ok i => exact absurd ((exists_decodeCommand_eq_ok_iff w).1 ⟨i, hd⟩) hw.not_ge
    | error _ =>
      exact ⟨_, (commandWrite_of_decodeCommand_error hd s).trans (execIllegal_idle hidle), rfl, rfl⟩
  · obtain ⟨op, hop⟩ := exists_longOp_of_keyed hi
    obtain ⟨t, ht, hreports⟩ := exec_reports_commandError hidle hop
    rw [commandError_of_keyed hi] at hreports
    refine ⟨t, ht, fun h0 => ?_, fun hgt => ?_, fun hpos hle halg => ?_, fun hpos hle halg => ?_⟩
    · rwa [keyedCommandError_of_keyLen_eq_zero (BitVec.eq_of_toNat_eq h0)] at hreports
    · rwa [keyedCommandError_of_gt hgt] at hreports
    · rwa [keyedCommandError_of_algField_eq hpos hle halg] at hreports
    · rwa [(keyedCommandError_eq_none_iff s).2 ⟨hpos, hle, halg⟩] at hreports
  · obtain ⟨t, ht, hreports⟩ := exec_reports_commandError (i := .truncate) hidle rfl
    rw [commandError] at hreports
    refine ⟨t, ht, fun halg => ?_, fun halg => ?_⟩
    · rwa [truncateError_of_algField_eq halg] at hreports
    · rwa [(truncateError_eq_none_iff s).2 halg] at hreports

end Sys2Proof.Safety
end

section
/-! Along steps and runs (R260, R292, R293): who changes the operands, how many events and answers a step and a run take, and how a command in progress ends. -/

namespace Sys2Proof.Safety
open Sys2Proof.Machine

/-! ### The operand registers (R105, R293) -/

/-- A step keeps the operands, unless it is reset, a CLEAR, or the host's write of an operand register while IDLE. -/
theorem operands_after_step {s t : State} (h : step s = .next t) :
    SameOperands s t ∨ ResetTurn s ∨ (AcceptTurn .clear s ∧ t.ctrl = s.ctrl)
      ∨ (s.phase = .idle ∧ ∃ r v, WriteTurn r v s
        ∧ t = respond .ok (operandWrite r v { s with pending := s.pending.tail })) := by
  have hsame : SameOperands s s := ⟨rfl, rfl, rfl, rfl, rfl⟩
  cases stepKind_of_step h with
  | waits hturn hidle => exact .inl hsame
  | completes op alg hturn hbusy halg =>
    obtain ⟨-, hctrl, hlen, hhi, hlo, hkey, -⟩ :=
      writeOutputs_frame op alg { s with pending := s.pending.tail }
    exact .inl ⟨hctrl, hlen, hhi, hlo, hkey⟩
  | resets hturn => exact .inr (.inl hturn)
  | reads r hturn => exact .inl hsame
  | clearsFlags v hturn => exact .inl hsame
  | setsOperand r v hturn hr hidle => exact .inr (.inr (.inr ⟨hidle, r, v, hturn, rfl⟩))
  | ignores r v hturn hr hstatus hcmd => exact .inl hsame
  | drops hturn => exact .inl hsame
  | nops hturn => exact .inl hsame
  | clears hturn => exact .inr (.inr (.inl ⟨hturn, rfl⟩))
  | starts i op hturn hop hready => exact .inl hsame
  | fails i e hturn herror =>
    exact .inl ⟨raiseError_ctrl (some i) e _, raiseError_keyLen (some i) e _,
      raiseError_cntHi (some i) e _, raiseError_cntLo (some i) e _, raiseError_key (some i) e _⟩
  | rejects hturn => exact .inl hsame

/-- Settles O35: beside reset and CLEAR only the host's write of an operand register changes one, and it changes that register alone. -/
theorem operandsChangeOnlyByTheHost : Obligations.OperandsChangeOnlyByTheHost := by
  unfold Obligations.OperandsChangeOnlyByTheHost
  intro s t h
  obtain ⟨hctrl, hlen, hhi, hlo, hkey⟩ | hreset | ⟨hclear, hctrl⟩ | ⟨hidle, r, v, hw, rfl⟩ :=
    operands_after_step h
  · exact ⟨.inl hctrl, .inl hlen, .inl hhi, .inl hlo, .inl hkey⟩
  · exact ⟨.inr (.inl hreset), .inr (.inl hreset), .inr (.inl hreset), .inr (.inl hreset),
      .inr (.inl hreset)⟩
  · exact ⟨.inl hctrl, .inr (.inr (.inl hclear)), .inr (.inr (.inl hclear)),
      .inr (.inr (.inl hclear)), .inr (.inr (.inl hclear))⟩
  · cases r with
    | ctrl => exact ⟨.inr (.inr ⟨hidle, v, hw⟩), .inl rfl, .inl rfl, .inl rfl, .inl rfl⟩
    | keyLen => exact ⟨.inl rfl, .inr (.inr (.inr ⟨hidle, v, hw⟩)), .inl rfl, .inl rfl, .inl rfl⟩
    | cntHi => exact ⟨.inl rfl, .inl rfl, .inr (.inr (.inr ⟨hidle, v, hw⟩)), .inl rfl, .inl rfl⟩
    | cntLo => exact ⟨.inl rfl, .inl rfl, .inl rfl, .inr (.inr (.inr ⟨hidle, v, hw⟩)), .inl rfl⟩
    | keyWord j =>
      exact ⟨.inl rfl, .inl rfl, .inl rfl, .inl rfl, .inr (.inr (.inr ⟨hidle, j, v, hw⟩))⟩
    | _ => exact ⟨.inl rfl, .inl rfl, .inl rfl, .inl rfl, .inl rfl⟩

/-! ### A run of well-formed events (R292) -/

/-- A step takes the next event, if there is one (R11). -/
theorem pending_after_step {s t : State} (h : step s = .next t) : t.pending = s.pending.tail := by
  cases stepKind_of_step h with
  | completes op alg hturn hbusy halg =>
    obtain ⟨-, -, -, -, -, -, -, -, -, -, hpending, -⟩ :=
      writeOutputs_frame op alg { s with pending := s.pending.tail }
    exact hpending
  | setsOperand r v hturn hr hidle =>
    obtain ⟨-, -, -, -, -, -, -, -, -, hpending, -⟩ :=
      operandWrite_frame r v { s with pending := s.pending.tail }
    exact hpending
  | fails i e hturn herror => exact raiseError_pending (some i) e _
  | _ => rfl

/-- After the engine's turn no command is in progress (R121). -/
theorem phase_after_engineTurn {s t : State} (h : step s = .next t) (hturn : EngineTurn s) :
    t.phase = .idle := by
  cases phaseKind_of_step h with
  | starts i op haccept => exact absurd haccept.2 (not_writeTurn_of_engineTurn hturn _ _)
  | rests _ _ hphase => exact hphase
  | goesOn _ hengine => exact absurd hturn hengine

/-- How many of the events are reads and writes, as the run's statement counts them (R292). -/
def transactionCount (events : List Event) : Nat :=
  (events.filter fun e => decide (e ≠ .engine ∧ e ≠ .reset)).length

@[simp] theorem transactionCount_nil : transactionCount [] = 0 := rfl

theorem transactionCount_cons (e : Event) (rest : List Event) :
    transactionCount (e :: rest) = transactionCount [e] + transactionCount rest := by
  rw [transactionCount, ← List.singleton_append, List.filter_append, List.length_append]
  rfl

/-- A well-formed read or write has one answer, the engine's turn and reset have none (R70). -/
theorem stepAnswers_length {s : State} {e : Event} {rest : List Event}
    (hp : s.pending = e :: rest) (hwf : e.wellFormed = true) :
    (stepAnswers s).length = transactionCount [e] := by
  cases e with
  | read off size =>
    obtain ⟨r, hr⟩ := (exists_decodeAccess_eq_reg_iff off size).2 hwf
    simp only [stepAnswers, hp, hr]
    rfl
  | write off size v =>
    rw [stepAnswers, hp]
    rfl
  | engine =>
    rw [stepAnswers_of_engineTurn (.inr ⟨rest, hp⟩)]
    rfl
  | reset =>
    rw [stepAnswers_of_resetTurn ⟨rest, hp⟩]
    rfl

theorem run_succ_of_step {s u : State} (h : step s = .next u) (k : Nat) :
    Host.Core.run Sys2Proof.core (k + 1) s = Host.Core.run Sys2Proof.core k u := by
  have hcore : Sys2Proof.core.step s = .next u := h
  simp only [Host.Core.run, hcore]

/-- By induction on the events still to come: each step keeps the engine invariant, takes one event and answers it. -/
theorem run_ends_idle {events : List Event} {s : State} (hp : s.pending = events)
    (hinv : EngineInv s) (hwf : ∀ e ∈ events, e.wellFormed = true) :
    ∃ t : State, Host.Core.run Sys2Proof.core (events.length + 1) s = .next t ∧ RunEnded t
      ∧ t.responses.length = s.responses.length + transactionCount events := by
  induction events generalizing s with
  | nil =>
    have hturn : EngineTurn s := .inl hp
    obtain ⟨t, ht⟩ := engineStep_next hinv
    rw [← step_of_pending_nil hp] at ht
    refine ⟨t, run_succ_of_step ht 0, ⟨?_, phase_after_engineTurn ht hturn⟩, ?_⟩
    · rw [pending_after_step ht, hp, List.tail_nil]
    · rw [responses_after_step ht, stepAnswers_of_engineTurn hturn, List.append_nil,
        transactionCount_nil, Nat.add_zero]
  | cons e rest ih =>
    obtain ⟨hwfe, hwfrest⟩ := List.forall_mem_cons.1 hwf
    obtain ⟨u, hu⟩ := runEvent_of_wellFormed (s := { s with pending := rest }) hinv hwfe
    rw [← step_of_pending_cons hp] at hu
    have hpu : u.pending = rest := by rw [pending_after_step hu, hp, List.tail_cons]
    obtain ⟨t, hrun, hend, hcount⟩ := ih hpu (engineOperandsStayChecked s u hinv hu) hwfrest
    refine ⟨t, (run_succ_of_step hu _).trans hrun, hend, ?_⟩
    rw [hcount, responses_after_step hu, List.length_append, stepAnswers_length hp hwfe,
      transactionCount_cons e rest, Nat.add_assoc]

/-- Settles O39: no step of the run stops, each keeps the engine invariant, and the last one is the engine's. -/
theorem runEndsIdle : Obligations.RunEndsIdle := by
  unfold Obligations.RunEndsIdle
  exact fun s => run_ends_idle rfl

/-! ### Reset (R260) -/

/-- The step of the reset event (R49, R260). -/
theorem step_of_resetTurn {s : State} (h : ResetTurn s) :
    step s = .next (resetBlock { s with pending := s.pending.tail }) := by
  obtain ⟨rest, hp⟩ := h
  rw [step_of_pending_cons hp, hp, List.tail_cons]
  rfl

/-- The block after reset is IDLE with no flag set, so that no completion follows and `irq` is 0 (R47, R121, R260). -/
theorem resetBlock_rests (s : State) :
    engineStep (resetBlock s) = .next (resetBlock s) ∧ irq (resetBlock s) = false :=
  ⟨engineStep_idle rfl, rfl⟩

/-- A command in progress ends only at the engine's turn or at reset (R121, R260). -/
theorem engineTurn_or_resetTurn_of_commandEnd {s t : State} (h : step s = .next t)
    (hbusy : s.phase ≠ .idle) (hidle : t.phase = .idle) : EngineTurn s ∨ ResetTurn s := by
  cases phaseKind_of_step h with
  | starts i op hturn => exact absurd hturn.1 hbusy
  | rests hend => exact hend.resolve_left hbusy
  | goesOn _ _ _ hphase => exact absurd (hphase.symm.trans hidle) hbusy

/-- Settles O45: the reset event's step is `resetBlock`, which leaves the engine nothing to complete. -/
theorem resetAbandonsTheCommand : Obligations.ResetAbandonsTheCommand := by
  unfold Obligations.ResetAbandonsTheCommand
  refine ⟨fun s hturn => ⟨step_of_resetTurn hturn, fun t ht => ?_⟩,
    fun s t => engineTurn_or_resetTurn_of_commandEnd⟩
  obtain rfl := Host.Outcome.next.inj ((step_of_resetTurn hturn).symm.trans ht)
  exact resetBlock_rests _

end Sys2Proof.Safety
end
